-- ==== Sys2Proof/Word.lean ====
section
/-! DEFINITION. The words of the block: the bit-vector widths that 00_scope.md rules R10 and R16 fix. -/

namespace Sys2Proof

/-- One byte: a command word (R92), a frame byte (R42), a value on the transport port (R101). -/
abbrev Byte := BitVec 8

/-- A 16-bit word: a running sum (R34), a pattern counter (R40), a value on the query port (R101). -/
abbrev Half := BitVec 16

/-- One sample of one channel, `READING_WIDTH = 12` bits, unsigned (R10). -/
abbrev Reading := BitVec 12

/-- A channel index inside the block, 0..3 (`NCH = 4`, R9). -/
abbrev Channel := BitVec 2

/-- A slot of a channel's circular history, 0..7 (`N = 8`, R9; `S.idx` is 3 bits, R35). -/
abbrev Slot := BitVec 3

/-- An offset into the 16-byte frame, 0..15 (`FRAME_LEN = 16`, R9; the cursor is 4 bits, R44). -/
abbrev Offset := BitVec 4

/-- The four readings of one acquisition, channel 0 first (R99). -/
abbrev Readings := Vector Reading 4

end Sys2Proof
end

