-- ==== Sys2Proof/Config.lean ====
section
/-! DEFINITION. What is fixed when the block is built (10_state.md R48, 00_scope.md R9 to R15), and the free
values: what the spec leaves unspecified (93_implementation_defined.md section 2), as opaque constants with no body. -/

namespace Sys2Proof

/-- `TEMP_CLASS_SOURCE` (R14): which value feeds the temperature classifier. -/
inductive TempSource where
  /-- the filtered value of `TEMP_CHANNEL` (the default of R14) -/
  | filtered
  /-- the temperature metric -/
  | metric
deriving DecidableEq, Repr

/-- The threshold record `TH_q = (WE, WX, AE, AX)` of one quantity (R150). -/
structure Thresholds where
  /-- `q_WARN_ENTER` -/
  warnEnter : Half
  /-- `q_WARN_EXIT` -/
  warnExit : Half
  /-- `q_ALARM_ENTER` -/
  alarmEnter : Half
  /-- `q_ALARM_EXIT` -/
  alarmExit : Half
deriving DecidableEq, Repr

/-- The OPEN entries of R48's table: the parameters no source gives a value (D10 to D13).
The values written here are those of test configuration TC1 (95_test_vectors.md section 0). They show that a legal
configuration exists, and tests use them; `Config.block` does not rest on them. -/
structure OpenParams where
  tempAlarmEnter  : Half := 450
  tempAlarmExit   : Half := 400
  gasWarnEnter    : Half := 1500
  gasWarnExit     : Half := 1200
  gasAlarmEnter   : Half := 2500
  gasAlarmExit    : Half := 2000
  /-- `SCALE_NUM`, a natural number -/
  scaleNum        : Nat := 330
  /-- `SCALE_DEN`, a natural number, at least 1 -/
  scaleDen        : Nat := 4095
  tempChannel     : Channel := 1
  gasChannel      : Channel := 2
  tempClassSource : TempSource := .filtered
deriving DecidableEq, Repr

/-- Every configuration constant of R48. The fields declared here have the value R48 gives this hardware as their
default, which D32 lets a model override; the OPEN ones come from `OpenParams`. -/
structure Params extends OpenParams where
  tempWarnEnter : Half := 350
  tempWarnExit  : Half := 330
  onMsWarn      : Half := 100
  offMsWarn     : Half := 900
  onMsAlarm     : Half := 50
  offMsAlarm    : Half := 50
  sync0         : Byte := 0xAA
  sync1         : Byte := 0x55
  endMarker     : Byte := 0x0D
deriving DecidableEq, Repr

/-- `TH_TEMP` (R150). -/
def Params.thTemp (p : Params) : Thresholds :=
  ⟨p.tempWarnEnter, p.tempWarnExit, p.tempAlarmEnter, p.tempAlarmExit⟩

/-- `TH_GAS` (R150). -/
def Params.thGas (p : Params) : Thresholds :=
  ⟨p.gasWarnEnter, p.gasWarnExit, p.gasAlarmEnter, p.gasAlarmExit⟩

/-- The orderings R13 asks of one quantity: `AE > WE > WX` and `AE > AX > WX`. -/
def Thresholds.ordered (t : Thresholds) : Bool :=
  decide (t.warnEnter < t.alarmEnter) && decide (t.warnExit < t.warnEnter) &&
  decide (t.alarmExit < t.alarmEnter) && decide (t.warnExit < t.alarmExit)

/-- R15 for one patterned level: `ON_MS ≥ 1` and `ON_MS + OFF_MS ≤ 65535`. -/
def patternTimesOk (on off : Half) : Bool :=
  decide (1 ≤ on.toNat) && decide (on.toNat + off.toNat ≤ 65535)

/-- A well-formed configuration (R15). `TEMP_CHANNEL ≤ 3` and `GAS_CHANNEL ≤ 3` hold by the 2-bit type. -/
def Params.wellFormed (p : Params) : Bool :=
  p.thTemp.ordered && p.thGas.ordered && decide (1 ≤ p.scaleDen) &&
  patternTimesOk p.onMsWarn p.offMsWarn && patternTimesOk p.onMsAlarm p.offMsAlarm

/-- R48's "legal values" of this hardware: well-formed (R15), and `TEMP_ALARM_ENTER > 360` (R13). -/
def Params.legal (p : Params) : Bool :=
  p.wellFormed && decide (360 < p.tempAlarmEnter.toNat)

/-- A block as built: a legal choice of the OPEN parameters, the other constants at R48's values. An ill-formed
configuration has no `Block` (R15: "A model refuses an ill-formed configuration"). -/
structure Block where
  opens : OpenParams := OpenParams.mk 450 400 1500 1200 2500 2000 330 4095 1 2 .filtered
  legal : Params.legal { toOpenParams := opens } = true := by decide
deriving DecidableEq, Repr, Inhabited

/-- The block at hand: SOME legal block, and nothing is known of which (the OPEN parameters of R14 and R48).
DESIGN CHOICE, safe: notes/assumptions/1.md. -/
opaque Config.block : Block

/-- The configuration every step of the machine reads: R48's values, and the OPEN parameters of `Config.block`. -/
def Config.params : Params := { toOpenParams := Config.block.opens }

/-- Test configuration TC1 (95_test_vectors.md section 0): for tests only, no step of the machine reads it. -/
def Config.tc1 : Params := { toOpenParams := OpenParams.mk 450 400 1500 1200 2500 2000 330 4095 1 2 .filtered }

/-- The unspecified byte of draw `n`: U1, U5 on the transport port, and U2 for a cleared latch's command word. -/
opaque Config.anyByte : Nat → Byte

/-- The unspecified half-word of draw `n`: U1 and U5 on the query port. -/
opaque Config.anyHalf : Nat → Half

/-- The unspecified payload of draw `n`: U2 for the readings of a cleared ACQ latch. -/
opaque Config.anyReadings : Nat → Readings

end Sys2Proof
end

