-- ==== Sys2Proof/Syntax.lean ====
section
/-! DEFINITION. The commands of opcode_table.json (30_encoding.md R94), one constructor per row, the four request
ports (R90) and what the environment may do at them (R91, R257, R290). -/

namespace Sys2Proof

/-- The four request ports (R90), highest priority first. -/
inductive Port where
  /-- acquisition event, priority 1 -/
  | acq
  /-- drain event (the transport), priority 2 -/
  | xport
  /-- one-millisecond tick, priority 3 -/
  | tick
  /-- the query port, priority 4 -/
  | query
deriving DecidableEq, Repr

/-- The commands (R94). ACQUIRE's four readings are the ACQ port's latched payload (R45, R99), not bits of the
command word (R92), so they are state and no operand here. -/
inductive Instr where
  /-- ACQUIRE, word 0x10 on ACQ (R230) -/
  | acquire
  /-- TICK, word 0x20 on TICK (R172) -/
  | tick
  /-- DRAIN, word 0x30 on XPORT (R205) -/
  | drain
  /-- RESET_CURSOR, word 0x40 on XPORT (R206) -/
  | resetCursor
  /-- RD_FRAME i, word 0101iiii on QUERY (R204) -/
  | rdFrame (i : BitVec 4)
  /-- RD_FILTERED c, word 0110cccc on QUERY (R125); c in 4..15 decodes too and raises CHANNEL_RANGE (R97) -/
  | rdFiltered (c : BitVec 4)
  /-- RD_METRIC, word 0x70 on QUERY (R126) -/
  | rdMetric
  /-- RD_RISK_TEMP, word 0x80 on QUERY (R155) -/
  | rdRiskTemp
  /-- RD_RISK_GAS, word 0x81 on QUERY (R156) -/
  | rdRiskGas
  /-- RD_RISK_COMB, word 0x82 on QUERY (R157) -/
  | rdRiskComb
  /-- RD_BUZZER, word 0x90 on QUERY (R175) -/
  | rdBuzzer
  /-- RD_MOTOR, word 0x91 on QUERY (R176) -/
  | rdMotor
  /-- RD_FAULT, word 0xA0 on QUERY (R252) -/
  | rdFault
deriving DecidableEq, Repr

/-- Why a word on a port is no command: the checks of R97, in its order. Each is ILLEGAL_COMMAND (R96). -/
inductive Illegal where
  /-- OP is 0x0 or 0xB..0xF -/
  | reservedOp
  /-- R94 gives OP another port -/
  | wrongPort
  /-- SEL is not legal for OP -/
  | illegalSel
deriving DecidableEq, Repr

/-- What a word on a port is (R98). The CHANNEL_RANGE case of R98 is `.command (.rdFiltered c)` with `c > 3`, whose
meaning raises that fault (R125). -/
inductive Decoded where
  | command (i : Instr)
  | illegal (why : Illegal)
deriving DecidableEq, Repr

/-- One request on a port (R91): the command word captured with it and, for ACQ, the four readings. -/
inductive Request where
  | acq (cmd : Byte) (readings : Readings)
  | xport (cmd : Byte)
  | tick (cmd : Byte)
  | query (cmd : Byte)
deriving DecidableEq, Repr

/-- What the environment did at the block's inputs since the last operation ended: whether RESET is asserted, and the
requests raised, in the order they were raised (R257, R266, R290). -/
structure Inputs where
  reset    : Bool := false
  requests : List Request := []
deriving DecidableEq, Repr

end Sys2Proof
end

