-- ==== Sys2Proof/WellFormed.lean ====
section
/-! DEFINITION. Which configurations a model admits (00_scope.md R15) and which operands of a command are in range
(30_encoding.md R93). -/

namespace Sys2Proof

/-- R15: "A model refuses an ill-formed configuration: such a block is not built". -/
def Config.accept (p : Params) : Option Params :=
  if p.wellFormed then some p else none

/-- Whether the operand a command selects is valid (R93): a channel index is 0..3; every byte index is valid; the
other forms fix SEL in the word. A command that is not well-formed still decodes, and raises CHANNEL_RANGE (R97). -/
def Instr.wellFormed : Instr → Bool
  | .rdFiltered c => decide (c.toNat ≤ 3)
  | .acquire => true
  | .tick => true
  | .drain => true
  | .resetCursor => true
  | .rdFrame _ => true
  | .rdMetric => true
  | .rdRiskTemp => true
  | .rdRiskGas => true
  | .rdRiskComb => true
  | .rdBuzzer => true
  | .rdMotor => true
  | .rdFault => true

end Sys2Proof
end

