-- ==== Sys2Proof/Decode.lean ====
section
/-! DEFINITION. The decoder (30_encoding.md R92 to R98), total on every word of every port, and the encoder. -/

namespace Sys2Proof

/-- The OP field, bits 7:4 (R92). -/
def opField (w : Byte) : BitVec 4 := w.extractLsb' 4 4

/-- The SEL field, bits 3:0 (R92). -/
def selField (w : Byte) : BitVec 4 := w.extractLsb' 0 4

/-- The only port that may carry an OP (R94); none for the reserved ones (R96). -/
def opPort (op : BitVec 4) : Option Port :=
  match op.toNat with
  | 0x1 => some .acq
  | 0x2 => some .tick
  | 0x3 => some .xport
  | 0x4 => some .xport
  | 0x5 => some .query
  | 0x6 => some .query
  | 0x7 => some .query
  | 0x8 => some .query
  | 0x9 => some .query
  | 0xA => some .query
  | _ => none

/-- The command of an OP and a SEL (R93, R94); none where SEL is not legal for OP (R96). Every SEL of OP 0x6 decodes:
R97 gives 4..15 the fault CHANNEL_RANGE, which the command's meaning raises. -/
def commandOf (op sel : BitVec 4) : Option Instr :=
  match op.toNat, sel.toNat with
  | 0x1, 0 => some .acquire
  | 0x2, 0 => some .tick
  | 0x3, 0 => some .drain
  | 0x4, 0 => some .resetCursor
  | 0x5, _ => some (.rdFrame sel)
  | 0x6, _ => some (.rdFiltered sel)
  | 0x7, 0 => some .rdMetric
  | 0x8, 0 => some .rdRiskTemp
  | 0x8, 1 => some .rdRiskGas
  | 0x8, 2 => some .rdRiskComb
  | 0x9, 0 => some .rdBuzzer
  | 0x9, 1 => some .rdMotor
  | 0xA, 0 => some .rdFault
  | _, _ => none

/-- What word `w` on port `p` is: the checks of R97, in its order. -/
def decode (p : Port) (w : Byte) : Decoded :=
  match opPort (opField w) with
  | none => .illegal .reservedOp
  | some q =>
    if p = q then
      match commandOf (opField w) (selField w) with
      | some i => .command i
      | none => .illegal .illegalSel
    else .illegal .wrongPort

/-- The port of a command and its word (R94). -/
def encode : Instr → Port × Byte
  | .acquire => (.acq, 0x10)
  | .tick => (.tick, 0x20)
  | .drain => (.xport, 0x30)
  | .resetCursor => (.xport, 0x40)
  | .rdFrame i => (.query, 0x5#4 ++ i)
  | .rdFiltered c => (.query, 0x6#4 ++ c)
  | .rdMetric => (.query, 0x70)
  | .rdRiskTemp => (.query, 0x80)
  | .rdRiskGas => (.query, 0x81)
  | .rdRiskComb => (.query, 0x82)
  | .rdBuzzer => (.query, 0x90)
  | .rdMotor => (.query, 0x91)
  | .rdFault => (.query, 0xA0)

/-- The port a bare word is presented on: the one R94 gives its OP, and QUERY for a reserved OP, which every port
refuses. DESIGN CHOICE for the reserved words, safe: notes/assumptions/15.md. -/
def homePort (w : Byte) : Port := (opPort (opField w)).getD .query

/-- The command read from the 8 bits of an opcode-table word on its own port. A command is one 8-bit word (R92), so
a number of more than 8 bits is none. -/
def decodeTableWord (_nbits w : Nat) : Option Instr :=
  if w < 256 then
    match decode (homePort (BitVec.ofNat 8 w)) (BitVec.ofNat 8 w) with
    | .command i => some i
    | .illegal _ => none
  else none

end Sys2Proof
end

