-- ==== Sys2Proof/Machine/State.lean ====
section
/-! DEFINITION. The block's state (10_state.md): every register the spec names, the data outputs of R47 and R91, and
two fields of the model's own (the environment's schedule and the index of the next free value). -/

namespace Sys2Proof.Machine

/-- A risk level, `Normal < Warning < Alarm` (R38). The code `0b11` is no value of this type: R38 says that no register
holds it and no rule produces it. -/
inductive RiskLevel where
  | normal
  | warning
  | alarm
deriving DecidableEq, Repr

/-- The two causes `raise Fault` is called with (R250). -/
inductive FaultCause where
  /-- CODE 1 -/
  | illegalCommand
  /-- CODE 2 -/
  | channelRange
deriving DecidableEq, Repr

/-- The current frame's storage as (offset, byte) pairs in one canonical form (`Memory.wf`, Machine/Ops.lean): offsets
strictly rising and below 16, and no entry equal to what an unlisted offset reads as (the zero frame of reset, R51). -/
abbrev Memory := List Host.Cell

/-- The reasons a step of the model could stop. There are none, and that is safe: the block's two faults (R250) do not
stop the model. They are recorded in `S.flt`, and the block goes on serving RD_FAULT and RESET (R251, R253). -/
inductive Fault where
deriving DecidableEq, Repr

/-- The reasons a command could have no meaning. -/
inductive Refusal where
  /-- An instruction that exec does not model yet, by its mnemonic: raised by an arm of exec only, and by no arm of
  this model. Safe: nothing can be proved of what such an instruction does. -/
  | notModelled (mnemonic : String)
deriving DecidableEq, Repr

/-- The state of the block. Names follow 10_state.md. -/
@[ext]
structure State where
  /-- `S.hist[c][k]`, 4 channels of 8 slots of 12 bits (R33) -/
  hist      : Vector (Vector Reading 8) 4
  /-- `S.sum[c]`, the running sums (R34) -/
  sum       : Vector Half 4
  /-- `S.idx`, the slot the next INGEST overwrites (R35) -/
  idx       : Slot
  /-- `S.filled` (R36) -/
  filled    : Bool
  /-- `S.temp_state` (R37) -/
  tempState : RiskLevel
  /-- `S.gas_state` (R37) -/
  gasState  : RiskLevel
  /-- `S.target` (R39) -/
  target    : RiskLevel
  /-- `S.counter`, the phase counter of the pattern (R40) -/
  counter   : Half
  /-- `S.buzzer`, true = 1 = on (R41, R177) -/
  buzzer    : Bool
  /-- `S.motor`, true = 1 = on (R41, R177) -/
  motor     : Bool
  /-- `S.frame[0..15]` (R42, R70) -/
  frame     : Memory
  /-- `S.seq` (R43) -/
  seq       : Byte
  /-- `S.cursor` (R44) -/
  cursor    : Offset
  /-- `S.pend_acq` (R45) -/
  pendAcq   : Bool
  /-- `S.acq_cmd` (R45) -/
  acqCmd    : Byte
  /-- `S.acq_data[0..3]` (R45) -/
  acqData   : Readings
  /-- `S.pend_x` (R45) -/
  pendX     : Bool
  /-- `S.x_cmd` (R45) -/
  xCmd      : Byte
  /-- `S.pend_tick` (R45) -/
  pendTick  : Bool
  /-- `S.tick_cmd` (R45) -/
  tickCmd   : Byte
  /-- `S.pend_q` (R45) -/
  pendQ     : Bool
  /-- `S.q_cmd` (R45) -/
  qCmd      : Byte
  /-- `S.flt`: bit 0 FAULTED, bits 2:1 CODE (R46) -/
  flt       : BitVec 3
  /-- the XPORT data output, 8 bits (R47, R91) -/
  xData     : Byte
  /-- the XPORT valid strobe: the operation served last returned `xData` (R91) -/
  xValid    : Bool
  /-- the QUERY data output, 16 bits (R47, R91) -/
  qData     : Half
  /-- the QUERY valid strobe: the operation served last returned `qData` (R91) -/
  qValid    : Bool
  /-- the model's own: what the environment does at the inputs, one entry for each step to come (R266).
  DESIGN CHOICE, safe: notes/assumptions/4.md -/
  env       : List Inputs
  /-- the model's own: the index of the next free value (`Config.anyByte` and its fellows).
  DESIGN CHOICE, safe: notes/assumptions/5.md -/
  draws     : Nat
deriving DecidableEq, Repr

/-- The block right after RESET (R51, R292). The frame lists nothing: unlisted offsets read as the zero frame. The data
outputs, the cleared latches' payloads and command words have no reset value in the spec; zero is the model's,
DESIGN CHOICE, unsafe: notes/assumptions/2.md and 3.md. -/
def State.reset : State where
  hist      := #v[#v[0, 0, 0, 0, 0, 0, 0, 0], #v[0, 0, 0, 0, 0, 0, 0, 0],
                  #v[0, 0, 0, 0, 0, 0, 0, 0], #v[0, 0, 0, 0, 0, 0, 0, 0]]
  sum       := #v[0, 0, 0, 0]
  idx       := 0
  filled    := false
  tempState := .normal
  gasState  := .normal
  target    := .normal
  counter   := 0
  buzzer    := false
  motor     := false
  frame     := []
  seq       := 1
  cursor    := 0
  pendAcq   := false
  acqCmd    := 0
  acqData   := #v[0, 0, 0, 0]
  pendX     := false
  xCmd      := 0
  pendTick  := false
  tickCmd   := 0
  pendQ     := false
  qCmd      := 0
  flt       := 0
  xData     := 0
  xValid    := false
  qData     := 0
  qValid    := false
  env       := []
  draws     := 0

end Sys2Proof.Machine
end

