-- ==== Sys2Proof/Machine/Ops.lean ====
section
/-! DEFINITION. The named operations over the state: named updates, the frame memory, the filter's arrays, the data
outputs, the request latches, and the fault entry. -/

namespace Sys2Proof.Machine

/-! ### Named updates, one per group of registers a rule writes together -/

/-- Writes the Sample Filter's state (R33 to R36). -/
def State.withFilter (s : State) (hist : Vector (Vector Reading 8) 4) (sum : Vector Half 4) (idx : Slot)
    (filled : Bool) : State :=
  { s with hist := hist, sum := sum, idx := idx, filled := filled }

/-- Writes the two comparators' latched states (R37). -/
def State.withRisk (s : State) (temp gas : RiskLevel) : State :=
  { s with tempState := temp, gasState := gas }

/-- Writes the target and the phase counter (R39, R40). -/
def State.withTarget (s : State) (level : RiskLevel) (counter : Half) : State :=
  { s with target := level, counter := counter }

/-- Writes the phase counter and the two outputs (R40, R41). -/
def State.withOutputs (s : State) (counter : Half) (buzzer motor : Bool) : State :=
  { s with counter := counter, buzzer := buzzer, motor := motor }

/-- Replaces the whole frame in one write (R42, R202). -/
def State.withFrame (s : State) (frame : Memory) : State := { s with frame := frame }

/-- Writes the sequence counter (R43). -/
def State.withSeq (s : State) (seq : Byte) : State := { s with seq := seq }

/-- Writes the read cursor (R44). -/
def State.withCursor (s : State) (cursor : Offset) : State := { s with cursor := cursor }

/-- Writes the fault register (R46). -/
def State.withFlt (s : State) (flt : BitVec 3) : State := { s with flt := flt }

/-- Writes the ACQ port's latch (R45). -/
def State.withAcqLatch (s : State) (pend : Bool) (cmd : Byte) (data : Readings) : State :=
  { s with pendAcq := pend, acqCmd := cmd, acqData := data }

/-- Writes the XPORT port's latch (R45). -/
def State.withXLatch (s : State) (pend : Bool) (cmd : Byte) : State :=
  { s with pendX := pend, xCmd := cmd }

/-- Writes the TICK port's latch (R45). -/
def State.withTickLatch (s : State) (pend : Bool) (cmd : Byte) : State :=
  { s with pendTick := pend, tickCmd := cmd }

/-- Writes the QUERY port's latch (R45). -/
def State.withQLatch (s : State) (pend : Bool) (cmd : Byte) : State :=
  { s with pendQ := pend, qCmd := cmd }

/-- Writes the two valid strobes (R91). -/
def State.withStrobes (s : State) (xValid qValid : Bool) : State :=
  { s with xValid := xValid, qValid := qValid }

/-- Writes the XPORT data output (R47). -/
def State.withXData (s : State) (v : Byte) : State := { s with xData := v }

/-- Writes the QUERY data output (R47). -/
def State.withQData (s : State) (v : Half) : State := { s with qData := v }

/-- Replaces what the environment has still to do (the model's own field). -/
def State.withEnv (s : State) (env : List Inputs) : State := { s with env := env }

/-- Moves on to the next free value (the model's own field). -/
def State.drawn (s : State) : State := { s with draws := s.draws + 1 }

/-! ### The frame memory (20_memory.md) -/

/-- What an offset with no entry reads as: the frame's contents after reset, the zero frame (R51, R203). -/
def Memory.unlisted (a : Nat) : Byte :=
  match a with
  | 0 => 0xAA
  | 1 => 0x55
  | 14 => 0xFF
  | 15 => 0x0D
  | _ => 0x00

/-- The byte at offset `a`, by its entry or, where there is none, by the reset contents. -/
def Memory.lookup (m : Memory) (a : Nat) : Byte :=
  match m with
  | [] => Memory.unlisted a
  | (k, b) :: rest => if k = a then b else Memory.lookup rest a

/-- `F[i]`, `MemRead(F, i, 1)` (R19, R70). Every offset exists: an offset has 4 bits and the frame 16 bytes. -/
def Memory.read (m : Memory) (a : Offset) : Byte := Memory.lookup m a.toNat

/-- The canonical cells of the bytes `bs` at the offsets from `a` on. -/
def Memory.cellsFrom (a : Nat) (bs : List Byte) : Memory :=
  match bs with
  | [] => []
  | b :: rest =>
    if b = Memory.unlisted a then Memory.cellsFrom (a + 1) rest
    else (a, b) :: Memory.cellsFrom (a + 1) rest

/-- The memory whose bytes from offset 0 on are `bs`: what PUBLISH leaves of a build buffer (R202). -/
def Memory.ofBytes (bs : List Byte) : Memory := Memory.cellsFrom 0 bs

/-- The cells of `m` have strictly rising offsets from `a` on, below 16, none equal to what an unlisted offset reads as. -/
def Memory.wfFrom (a : Nat) (m : Memory) : Bool :=
  match m with
  | [] => true
  | (k, b) :: rest =>
    decide (a ≤ k) && decide (k < 16) && decide (b ≠ Memory.unlisted k) && Memory.wfFrom (k + 1) rest

/-- The canonical form of the frame memory. -/
def Memory.wf (m : Memory) : Bool := Memory.wfFrom 0 m

/-- `S.frame[i]` (R42). -/
def State.frameByte (s : State) (i : Offset) : Byte := Memory.read s.frame i

/-! ### The filter's arrays, by channel and slot -/

/-- The value of `f` for each of the four channels, channel 0 first. -/
def perChannel {α : Type} (f : Channel → α) : Vector α 4 := #v[f 0, f 1, f 2, f 3]

/-- The reading of channel `c` in an acquisition's payload: `readings[c] = rc` (R99). -/
def readingOf (r : Readings) (c : Channel) : Reading := r[c.toNat]'(c.isLt)

/-- `S.sum[c]` (R34). -/
def State.sumAt (s : State) (c : Channel) : Half := s.sum[c.toNat]'(c.isLt)

/-- `S.hist[c]`, the eight slots of one channel (R33). -/
def State.histOf (s : State) (c : Channel) : Vector Reading 8 := s.hist[c.toNat]'(c.isLt)

/-- `S.hist[c][k]` (R33). -/
def State.histAt (s : State) (c : Channel) (k : Slot) : Reading := (s.histOf c)[k.toNat]'(k.isLt)

/-! ### The data outputs (R47, R91, R101) -/

/-- The operation returns no value on any port: both valid strobes are low. -/
def State.returnNothing (s : State) : State := s.withStrobes false false

/-- `return b` on XPORT (R19, R101). -/
def State.returnX (s : State) (b : Byte) : State := (s.withXData b).withStrobes true false

/-- `return v` on QUERY (R19, R101). -/
def State.returnQ (s : State) (v : Half) : State := (s.withQData v).withStrobes false true

/-- A DRAIN served in the Faulted state returns an unspecified byte (R253, U1): a free value.
DESIGN CHOICE, safe: notes/assumptions/14.md. -/
def State.returnAnyX (s : State) : State := (s.returnX (Config.anyByte s.draws)).drawn

/-- A query served in the Faulted state returns an unspecified half-word (R253, U1): a free value.
DESIGN CHOICE, safe: notes/assumptions/14.md. -/
def State.returnAnyQ (s : State) : State := (s.returnQ (Config.anyHalf s.draws)).drawn

/-- An operation of port `p` returns no value: the strobes are low, and the data output of `p`, where it has one, has
an unspecified value (R47 "defined only for the operation that produced it", U5): a free value.
DESIGN CHOICE, safe: notes/assumptions/13.md. -/
def State.returnNoValue (s : State) (p : Port) : State :=
  match p with
  | .acq => s.returnNothing
  | .tick => s.returnNothing
  | .xport => ((s.withXData (Config.anyByte s.draws)).drawn).returnNothing
  | .query => ((s.withQData (Config.anyHalf s.draws)).drawn).returnNothing

/-! ### The fault entry (60_exceptions.md) -/

/-- `CODE` of a fault (R250). -/
def FaultCause.code (f : FaultCause) : BitVec 2 :=
  match f with
  | .illegalCommand => 1
  | .channelRange => 2

/-- `S.flt.FAULTED`, bit 0 (R46). -/
def State.faulted (s : State) : Bool := s.flt.getLsbD 0

/-- `raise Fault(code)` (R251): `S.flt <- {code[1:0], 1}` unless FAULTED is already 1, and nothing else. The block has no
saved context, handler or vector, and no command returns from a fault (R254): only the reset sequence does
(`resetSequence`, Machine/Reset.lean). -/
def State.raiseFault (s : State) (f : FaultCause) : State :=
  if s.faulted then s else s.withFlt (f.code ++ 1#1)

/-- A command of port `p` faults: the fault entry, and no value is returned (R251). -/
def State.faultOn (s : State) (p : Port) (f : FaultCause) : State := (s.raiseFault f).returnNoValue p

/-- The next state of a command: `served` while the block is not faulted; in the Faulted state the request is consumed
without effect (R253), and `consumed` says what its port returns. -/
def State.unlessFaulted (s : State) (served consumed : State) : Host.Outcome State Fault Refusal :=
  .next (if s.faulted then consumed else served)

/-! ### The request latches (R45, R258, R259) -/

/-- The `pend` bit of a port (R45). -/
def State.pending (s : State) (p : Port) : Bool :=
  match p with
  | .acq => s.pendAcq
  | .xport => s.pendX
  | .tick => s.pendTick
  | .query => s.pendQ

/-- The latched command word of a port (R45). -/
def State.command (s : State) (p : Port) : Byte :=
  match p with
  | .acq => s.acqCmd
  | .xport => s.xCmd
  | .tick => s.tickCmd
  | .query => s.qCmd

/-- A request is raised (R258): it is captured if its port's latch is clear, and lost if the latch is set. -/
def State.raise (s : State) (r : Request) : State :=
  match r with
  | .acq cmd readings => if s.pendAcq then s else s.withAcqLatch true cmd readings
  | .xport cmd => if s.pendX then s else s.withXLatch true cmd
  | .tick cmd => if s.pendTick then s else s.withTickLatch true cmd
  | .query cmd => if s.pendQ then s else s.withQLatch true cmd

/-- The requests are raised one after another, in the order given. -/
def State.raiseAll (s : State) (rs : List Request) : State :=
  match rs with
  | [] => s
  | r :: rest => (s.raise r).raiseAll rest

/-- A port's latch is cleared (R258). What it had captured is unspecified from here on (R51, U2): free values.
DESIGN CHOICE, safe: notes/assumptions/3.md. -/
def State.clearLatch (s : State) (p : Port) : State :=
  match p with
  | .acq => (s.withAcqLatch false (Config.anyByte s.draws) (Config.anyReadings s.draws)).drawn
  | .xport => (s.withXLatch false (Config.anyByte s.draws)).drawn
  | .tick => (s.withTickLatch false (Config.anyByte s.draws)).drawn
  | .query => (s.withQLatch false (Config.anyByte s.draws)).drawn

/-- The port to serve: the highest-priority pending one, ACQ > XPORT > TICK > QUERY (R259); none when the block idles
(R268). -/
def State.nextPort (s : State) : Option Port :=
  if s.pendAcq then some .acq
  else if s.pendX then some .xport
  else if s.pendTick then some .tick
  else if s.pendQ then some .query
  else none

end Sys2Proof.Machine
end

