-- ==== Sys2Proof/Machine/Operands.lean ====
section
/-! DEFINITION. The operand forms of 30_encoding.md R93, the codes and formats of the values on the ports (R38, R101),
and the byte order of the frame (R72). -/

namespace Sys2Proof.Machine

/-- The *channel* operand (R93): SEL is the channel index; 4..15 are out of range. -/
def channelOperand (sel : BitVec 4) : Option Channel :=
  if sel.toNat ≤ 3 then some (sel.extractLsb' 0 2) else none

/-- The *byte index* operand (R93): SEL is the frame offset; all 16 values are valid. -/
def byteIndexOperand (sel : BitVec 4) : Offset := sel

/-- The code of a risk level (R38). -/
def RiskLevel.code (l : RiskLevel) : BitVec 2 :=
  match l with
  | .normal => 0
  | .warning => 1
  | .alarm => 2

/-- `zext_16` of a byte (R101). -/
def zextByte (b : Byte) : Half := b.zeroExtend 16

/-- `zext_16` of a risk level's code (R101). -/
def zextLevel (l : RiskLevel) : Half := l.code.zeroExtend 16

/-- `zext_16` of a bit (R101). -/
def zextBit (b : Bool) : Half := (BitVec.ofBool b).zeroExtend 16

/-- `zext_16` of the fault register (R101). -/
def zextFlt (f : BitVec 3) : Half := f.zeroExtend 16

/-- `zext_16` of a reading, as INGEST adds it to a sum (R120). -/
def zextReading (r : Reading) : Half := r.zeroExtend 16

/-- Bits 7:0 of a 2-byte field, the byte at the lower offset. That little-endian means this is PRESUMED (R72, G1; general
knowledge), unsafe: notes/assumptions/8.md. -/
def lowByte (v : Half) : Byte := v.extractLsb' 0 8

/-- Bits 15:8 of a 2-byte field, the byte at the higher offset (R72). -/
def highByte (v : Half) : Byte := v.extractLsb' 8 8

end Sys2Proof.Machine
end

