-- ==== Sys2Proof/Machine/Flags.lean ====
section
/-! DEFINITION. The status bits of the block (10_state.md R52): `filled` and the status byte (`S.flt` is in
Machine/Ops.lean). -/

namespace Sys2Proof.Machine

/-- `S.filled` after an INGEST into slot `k`: set on the wrap from 7 to 0, and never cleared here (R36, R120). -/
def filledAfter (filled : Bool) (k : Slot) : Bool := filled || decide (k = 7)

/-- "risk ≥ Warning" (R231): the level is not Normal. -/
def RiskLevel.atLeastWarning (l : RiskLevel) : Bool := decide (l ≠ .normal)

/-- `STATUS()` (R231): `{0000, temp_state ≠ Normal, gas_state ≠ Normal, motor, buzzer}`. -/
def State.statusByte (s : State) : Byte :=
  0#4 ++ BitVec.ofBool s.tempState.atLeastWarning ++ BitVec.ofBool s.gasState.atLeastWarning ++
    BitVec.ofBool s.motor ++ BitVec.ofBool s.buzzer

end Sys2Proof.Machine
end

