-- ==== Sys2Proof/Machine/Filter.lean ====
section
/-! DEFINITION. The Sample Filter (40_filter.md): INGEST, EFFCOUNT, FILTERED, METRIC, FILTER_RESET, and the commands
RD_FILTERED and RD_METRIC. -/

namespace Sys2Proof.Machine

/-- `S.sum[c] + readings[c] - S.hist[c][k]` (R120). In 16 bits: where the invariant of R34 holds, nothing wraps.
DEDUCED, safe: notes/assumptions/7.md. -/
def State.nextSum (s : State) (r : Readings) (c : Channel) : Half :=
  s.sumAt c + zextReading (readingOf r c) - zextReading (s.histAt c s.idx)

/-- `S.hist[c]` with the slot `S.idx` overwritten by the new reading (R120). -/
def State.nextHist (s : State) (r : Readings) (c : Channel) : Vector Reading 8 :=
  (s.histOf c).set s.idx.toNat (readingOf r c) s.idx.isLt

/-- INGEST (R120). -/
def State.ingest (s : State) (r : Readings) : State :=
  s.withFilter (perChannel (s.nextHist r)) (perChannel (s.nextSum r)) (s.idx + 1) (filledAfter s.filled s.idx)

/-- EFFCOUNT (R121). -/
def State.effCount (s : State) : Nat := if s.filled then 8 else s.idx.toNat

/-- FILTERED(c) (R122): the truncated mean, and 0 before the first sample. -/
def State.filtered (s : State) (c : Channel) : Half :=
  if s.effCount = 0 then 0 else BitVec.ofNat 16 ((s.sumAt c).toNat / s.effCount)

/-- METRIC_EXACT (R123): multiply first, one truncating division, exact naturals. -/
def State.metricExact (cfg : Params) (s : State) : Nat :=
  (s.filtered cfg.tempChannel).toNat * cfg.scaleNum / cfg.scaleDen

/-- METRIC (R123): METRIC_EXACT mod 2^16. -/
def State.metric (cfg : Params) (s : State) : Half := BitVec.ofNat 16 (s.metricExact cfg)

/-- FILTER_RESET (R124). -/
def State.filterReset (s : State) : State :=
  s.withFilter (perChannel fun _ => #v[0, 0, 0, 0, 0, 0, 0, 0]) (perChannel fun _ => 0) 0 false

/-- RD_FILTERED c (R125): CHANNEL_RANGE for c in 4..15. -/
def execRdFiltered (c : BitVec 4) (s : State) : Host.Outcome State Fault Refusal :=
  s.unlessFaulted
    (match channelOperand c with
      | some ch => s.returnQ (s.filtered ch)
      | none => s.faultOn .query .channelRange)
    s.returnAnyQ

/-- RD_METRIC under the configuration `cfg` (R126). -/
def rdMetric (cfg : Params) (s : State) : Host.Outcome State Fault Refusal :=
  s.unlessFaulted (s.returnQ (s.metric cfg)) s.returnAnyQ

/-- RD_METRIC (R126). -/
def execRdMetric (s : State) : Host.Outcome State Fault Refusal := rdMetric Config.params s

end Sys2Proof.Machine
end

