-- ==== Sys2Proof/Machine/Classifier.lean ====
section
/-! DEFINITION. The Risk Classifier (41_classifier.md): STEP, CLASSIFY, COMBINED, and the commands RD_RISK_TEMP,
RD_RISK_GAS and RD_RISK_COMB. -/

namespace Sys2Proof.Machine

/-- STEP(state, v, TH) (R151). -/
def riskStep (level : RiskLevel) (v : Half) (th : Thresholds) : RiskLevel :=
  match level with
  | .normal => if th.alarmEnter ≤ v then .alarm else if th.warnEnter ≤ v then .warning else .normal
  | .warning => if th.alarmEnter ≤ v then .alarm else if v ≤ th.warnExit then .normal else .warning
  | .alarm => if v ≤ th.alarmExit then .warning else .alarm

/-- `vT`, the temperature classifier's input (R152). -/
def State.tempInput (cfg : Params) (s : State) : Half :=
  match cfg.tempClassSource with
  | .filtered => s.filtered cfg.tempChannel
  | .metric => s.metric cfg

/-- `vG`, the gas classifier's input (R152). -/
def State.gasInput (cfg : Params) (s : State) : Half := s.filtered cfg.gasChannel

/-- CLASSIFY (R153). -/
def State.classify (cfg : Params) (s : State) : State :=
  s.withRisk (riskStep s.tempState (s.tempInput cfg) cfg.thTemp) (riskStep s.gasState (s.gasInput cfg) cfg.thGas)

/-- `max` on risk levels: the level of the greater code (R18, R38). -/
def RiskLevel.max (a b : RiskLevel) : RiskLevel := if b.code ≤ a.code then a else b

/-- COMBINED (R154). -/
def State.combined (s : State) : RiskLevel := s.tempState.max s.gasState

/-- RD_RISK_TEMP (R155). -/
def execRdRiskTemp (s : State) : Host.Outcome State Fault Refusal :=
  s.unlessFaulted (s.returnQ (zextLevel s.tempState)) s.returnAnyQ

/-- RD_RISK_GAS (R156). -/
def execRdRiskGas (s : State) : Host.Outcome State Fault Refusal :=
  s.unlessFaulted (s.returnQ (zextLevel s.gasState)) s.returnAnyQ

/-- RD_RISK_COMB (R157). -/
def execRdRiskComb (s : State) : Host.Outcome State Fault Refusal :=
  s.unlessFaulted (s.returnQ (zextLevel s.combined)) s.returnAnyQ

end Sys2Proof.Machine
end

