-- ==== Sys2Proof/Machine/Pattern.lean ====
section
/-! DEFINITION. The Actuator Pattern Driver (42_pattern.md): SET_TARGET, and the commands TICK, RD_BUZZER, RD_MOTOR. -/

namespace Sys2Proof.Machine

/-- SET_TARGET(level) (R171): a new target restarts the counter at 0. Where `level` is the target already, writing it
again and keeping the counter is the rule's "nothing". -/
def State.setTarget (s : State) (level : RiskLevel) : State :=
  s.withTarget level (if level ≠ s.target then 0 else s.counter)

/-- A TICK under a patterned level (R172): increment first, evaluate the incremented value, wrap last. -/
def State.patternTick (s : State) (on off : Half) (motor : Bool) : State :=
  s.withOutputs
    (if on.toNat + off.toNat ≤ s.counter.toNat + 1 then 0 else s.counter + 1)
    (decide (s.counter.toNat + 1 ≤ on.toNat)) motor

/-- The effect of TICK under the configuration `cfg` (R172). -/
def State.tickOutputs (cfg : Params) (s : State) : State :=
  match s.target with
  | .normal => s.withOutputs 0 false false
  | .warning => s.patternTick cfg.onMsWarn cfg.offMsWarn false
  | .alarm => s.patternTick cfg.onMsAlarm cfg.offMsAlarm true

/-- TICK (R172). -/
def execTick (s : State) : Host.Outcome State Fault Refusal :=
  s.unlessFaulted (s.tickOutputs Config.params).returnNothing s.returnNothing

/-- RD_BUZZER (R175). -/
def execRdBuzzer (s : State) : Host.Outcome State Fault Refusal :=
  s.unlessFaulted (s.returnQ (zextBit s.buzzer)) s.returnAnyQ

/-- RD_MOTOR (R176). -/
def execRdMotor (s : State) : Host.Outcome State Fault Refusal :=
  s.unlessFaulted (s.returnQ (zextBit s.motor)) s.returnAnyQ

end Sys2Proof.Machine
end

