-- ==== Sys2Proof/Machine/Frame.lean ====
section
/-! DEFINITION. The Frame Publisher and the drain port (43_frame.md): BUILD, CHECKSUM, PUBLISH, INIT_ZERO_FRAME, and the
commands RD_FRAME, DRAIN and RESET_CURSOR. -/

namespace Sys2Proof.Machine

/-- CHECKSUM (R201): the XOR of the bytes, from 0. -/
def checksum (bs : List Byte) : Byte := bs.foldl (· ^^^ ·) 0

/-- Bytes 0 to 13 of the build buffer (R200, layout of R71). -/
def frameHead (cfg : Params) (seq status : Byte) (v : Channel → Half) (m : Half) : List Byte :=
  [cfg.sync0, cfg.sync1, seq, status,
   lowByte (v 0), highByte (v 0), lowByte (v 1), highByte (v 1),
   lowByte (v 2), highByte (v 2), lowByte (v 3), highByte (v 3),
   lowByte m, highByte m]

/-- The build buffer `B[0..15]` (R200). -/
def frameBytes (cfg : Params) (seq status : Byte) (v : Channel → Half) (m : Half) : List Byte :=
  frameHead cfg seq status v m ++ [checksum (frameHead cfg seq status v m), cfg.endMarker]

/-- PUBLISH (R202): `S.frame[0..15] <- B[0..15]` in one write. -/
def State.publish (s : State) (bytes : List Byte) : State := s.withFrame (Memory.ofBytes bytes)

/-- BUILD (R200): the current seq goes into byte 2, and seq is then incremented mod 256. -/
def State.build (cfg : Params) (s : State) (status : Byte) (v : Channel → Half) (m : Half) : State :=
  (s.withSeq (s.seq + 1)).publish (frameBytes cfg s.seq status v m)

/-- INIT_ZERO_FRAME (R203). -/
def State.initZeroFrame (cfg : Params) (s : State) : State := s.build cfg 0 (fun _ => 0) 0

/-- `S.cursor <- 0` (R206). -/
def State.resetCursor (s : State) : State := s.withCursor 0

/-- RD_FRAME i (R204). -/
def execRdFrame (i : BitVec 4) (s : State) : Host.Outcome State Fault Refusal :=
  s.unlessFaulted (s.returnQ (zextByte (s.frameByte (byteIndexOperand i)))) s.returnAnyQ

/-- DRAIN (R205): the byte at the cursor, and the cursor advances mod 16. -/
def execDrain (s : State) : Host.Outcome State Fault Refusal :=
  s.unlessFaulted ((s.withCursor (s.cursor + 1)).returnX (s.frameByte s.cursor)) s.returnAnyX

/-- RESET_CURSOR (R206). -/
def execResetCursor (s : State) : Host.Outcome State Fault Refusal :=
  s.unlessFaulted (s.resetCursor.returnNoValue .xport) (s.returnNoValue .xport)

end Sys2Proof.Machine
end

