-- ==== Sys2Proof/Machine/Orchestrator.lean ====
section
/-! DEFINITION. The Cycle Orchestrator (44_orchestrator.md): the command ACQUIRE. -/

namespace Sys2Proof.Machine

/-- The decision half of ACQUIRE (R230), INGEST to SET_TARGET: the state whose filter values, metric and status go into
the frame. -/
def State.acquireDecide (cfg : Params) (s : State) (r : Readings) : State :=
  let classified := (s.ingest r).classify cfg
  classified.setTarget classified.combined

/-- The effect of ACQUIRE under the configuration `cfg` with the readings `r` (R230). The filtered values and the metric
are read back after INGEST; CLASSIFY and SET_TARGET do not write the filter, so they are read here after both. -/
def State.acquireCycle (cfg : Params) (s : State) (r : Readings) : State :=
  let decided := s.acquireDecide cfg r
  (decided.build cfg decided.statusByte decided.filtered (decided.metric cfg)).resetCursor

/-- ACQUIRE (R230): one cycle on the readings latched with the request (R99). -/
def execAcquire (s : State) : Host.Outcome State Fault Refusal :=
  s.unlessFaulted (s.acquireCycle Config.params s.acqData).returnNothing s.returnNothing

end Sys2Proof.Machine
end

