-- ==== Sys2Proof/Machine/Exceptions.lean ====
section
/-! DEFINITION. Faults (60_exceptions.md): the command RD_FAULT, and the service of an illegal word. -/

namespace Sys2Proof.Machine

/-- RD_FAULT (R252): the one command served in the Faulted state too (R253). It clears nothing. -/
def execRdFault (s : State) : Host.Outcome State Fault Refusal := .next (s.returnQ (zextFlt s.flt))

/-- Serving an illegal word on port `p` (R96): `Fault(ILLEGAL_COMMAND)` and no other effect; in the Faulted state the
request is consumed without a further fault (R253), which `raiseFault` sees to. -/
def State.serveIllegal (s : State) (p : Port) : State := s.faultOn p .illegalCommand

end Sys2Proof.Machine
end

