-- ==== Sys2Proof/Machine/Reset.lean ====
section
/-! DEFINITION. The reset input (70_reset_and_hazards.md R290 to R292): the one way out of the Faulted state (R254). -/

namespace Sys2Proof.Machine

/-- The first line of R291: every pending latch is cleared. -/
def State.clearLatches (s : State) : State :=
  (((s.clearLatch .acq).clearLatch .xport).clearLatch .tick).clearLatch .query

/-- What RESET leaves on the data outputs: no operation's value (R47), so the strobes are low and the data are free.
DESIGN CHOICE, safe: notes/assumptions/13.md. -/
def State.clearOutputs (s : State) : State := (s.returnNoValue .xport).returnNoValue .query

/-- The reset sequence (R291), in its order, as one atomic step. -/
def State.resetSequence (cfg : Params) (s : State) : State :=
  let cleared := (s.clearLatches.withFlt 0).filterReset
  let idle := ((cleared.withRisk .normal .normal).withTarget .normal 0).withOutputs 0 false false
  (((idle.withSeq 0).initZeroFrame cfg).withCursor 0).clearOutputs

/-- RESET (R290). -/
def State.takeReset (s : State) : State := s.resetSequence Config.params

end Sys2Proof.Machine
end

