-- ==== Sys2Proof/Machine/Service.lean ====
section
/-! DEFINITION. What the next step serves (60_exceptions.md R257 to R261, R268): the environment's inputs are taken, the
highest-priority pending port is chosen and its word is decoded. -/

namespace Sys2Proof.Machine

/-- What a step does, with the state it does it in. -/
inductive Service where
  /-- RESET is asserted (R290) -/
  | reset (s : State)
  /-- no latch is set: the block idles (R268) -/
  | idle (s : State)
  /-- the word latched on port `p` is illegal (R96) -/
  | illegal (p : Port) (s : State)
  /-- the word latched on port `p` is the command `i` -/
  | run (p : Port) (i : Instr) (s : State)
deriving DecidableEq, Repr

/-- The inputs of the step at hand: RESET low and no request where the environment has nothing more to do. -/
def State.inputs (s : State) : Inputs :=
  match s.env with
  | [] => { reset := false, requests := [] }
  | now :: _ => now

/-- The state in which the block meets the step's inputs: the requests raised and not lost are latched (R258). -/
def State.latched (s : State) : State := (s.withEnv s.env.tail).raiseAll s.inputs.requests

/-- Serves one port of a state whose requests are latched: its word is decoded (R97), or the block idles. -/
def State.arbitrate (s : State) : Service :=
  match s.nextPort with
  | none => .idle s
  | some p =>
    match decode p (s.command p) with
    | .command i => .run p i s
    | .illegal _ => .illegal p s

/-- What the next step does. RESET takes priority over every request (R290), and the requests raised while it is asserted
are lost (R294). -/
def State.nextService (s : State) : Service :=
  if s.inputs.reset then .reset (s.withEnv s.env.tail) else s.latched.arbitrate

/-- An operation of port `p` ends by clearing its latch (R258, R261). -/
def complete (p : Port) (o : Host.Outcome State Fault Refusal) : Host.Outcome State Fault Refusal :=
  match o with
  | .next s => .next (s.clearLatch p)
  | .fault r => .fault r
  | .refused r => .refused r

/-- The word `w` latched on port `p` with nothing ahead of it: the latches of higher priority clear, and no input at the
next step. The payload of the ACQ latch stays as it is. -/
def State.withRequest (s : State) (p : Port) (w : Byte) : State :=
  let quiet := s.withEnv ({ reset := false, requests := [] } :: s.env)
  match p with
  | .acq => quiet.withAcqLatch true w s.acqData
  | .xport => (quiet.withAcqLatch false s.acqCmd s.acqData).withXLatch true w
  | .tick => ((quiet.withAcqLatch false s.acqCmd s.acqData).withXLatch false s.xCmd).withTickLatch true w
  | .query =>
    (((quiet.withAcqLatch false s.acqCmd s.acqData).withXLatch false s.xCmd).withTickLatch false
      s.tickCmd).withQLatch true w

end Sys2Proof.Machine
end

