-- ==== Sys2Proof/Machine/Dispatch.lean ====
section
/-! DEFINITION. exec: one arm per command, each one call of its meaning. -/

namespace Sys2Proof.Machine

def exec (i : Instr) (s : State) : Host.Outcome State Fault Refusal :=
  match i with
  | .acquire => Sys2Proof.Machine.execAcquire s
  | .tick => Sys2Proof.Machine.execTick s
  | .drain => Sys2Proof.Machine.execDrain s
  | .resetCursor => Sys2Proof.Machine.execResetCursor s
  | .rdFrame i4 => Sys2Proof.Machine.execRdFrame i4 s
  | .rdFiltered c => Sys2Proof.Machine.execRdFiltered c s
  | .rdMetric => Sys2Proof.Machine.execRdMetric s
  | .rdRiskTemp => Sys2Proof.Machine.execRdRiskTemp s
  | .rdRiskGas => Sys2Proof.Machine.execRdRiskGas s
  | .rdRiskComb => Sys2Proof.Machine.execRdRiskComb s
  | .rdBuzzer => Sys2Proof.Machine.execRdBuzzer s
  | .rdMotor => Sys2Proof.Machine.execRdMotor s
  | .rdFault => Sys2Proof.Machine.execRdFault s

end Sys2Proof.Machine
end

