-- ==== Sys2Proof/Machine/Step.lean ====
section
/-! DEFINITION. One step of the block: the environment's inputs are taken, then RESET, one operation, or nothing. -/

namespace Sys2Proof.Machine

/-- One step (R259, R260, R268, R290). An idle block's state does not change but for the inputs it has taken. -/
def step (s : State) : Host.Outcome State Fault Refusal :=
  match s.nextService with
  | .reset s1 => .next s1.takeReset
  | .idle s1 => .next s1
  | .illegal p s1 => complete p (.next (s1.serveIllegal p))
  | .run p i s1 => complete p (exec i s1)

/-- The word `w` pending on its own port, the next thing the block serves: notes/assumptions/15.md. -/
def State.withFetchWord (s : State) (_nbits w : Nat) : State :=
  s.withRequest (homePort (BitVec.ofNat 8 w)) (BitVec.ofNat 8 w)

end Sys2Proof.Machine
end

