-- ==== Sys2Proof/Machine/Program.lean ====
section
/-! DEFINITION. The request programs of the spec (30_encoding.md R102 to R104): lines, pseudo-lines, and the inputs they
put at the block's ports. -/

namespace Sys2Proof.Machine

/-- A line of a request program (R102), a pseudo-line (R103), or a command on a port of the writer's choice (R104). -/
inductive Line where
  /-- `ACQ r0, r1, r2, r3` -/
  | acq (r : Readings)
  /-- `TICK` -/
  | tick
  /-- `DRAIN` -/
  | drain
  /-- `RSTCUR` -/
  | rstcur
  /-- `RDF i` -/
  | rdf (i : BitVec 4)
  /-- `RDV c` -/
  | rdv (c : BitVec 4)
  /-- `RDM` -/
  | rdm
  /-- `RDR T` -/
  | rdrT
  /-- `RDR G` -/
  | rdrG
  /-- `RDR C` -/
  | rdrC
  /-- `RDO B` -/
  | rdoB
  /-- `RDO M` -/
  | rdoM
  /-- `RDFLT` -/
  | rdflt
  /-- `RESET`, the reset input (R290) -/
  | reset
  /-- `TICKS n` -/
  | ticks (n : Nat)
  /-- `ACQN n, r0, r1, r2, r3` -/
  | acqn (n : Nat) (r : Readings)
  /-- `DRAIN16` -/
  | drain16
  /-- `X@P` -/
  | misrouted (i : Instr) (p : Port)
deriving DecidableEq, Repr

/-- The request that raises the word `w` on port `p`, with the readings `r` where the port is ACQ. -/
def requestOn (p : Port) (w : Byte) (r : Readings) : Request :=
  match p with
  | .acq => .acq w r
  | .xport => .xport w
  | .tick => .tick w
  | .query => .query w

/-- The port a request is raised on (R91). -/
def portOf (r : Request) : Port :=
  match r with
  | .acq _ _ => .acq
  | .xport _ => .xport
  | .tick _ => .tick
  | .query _ => .query

/-- The command word a request carries (R91). -/
def wordOf (r : Request) : Byte :=
  match r with
  | .acq w _ => w
  | .xport w => w
  | .tick w => w
  | .query w => w

/-- One request at the ports, and RESET low. -/
def raising (r : Request) : Inputs := { reset := false, requests := [r] }

/-- The request of a command on its own port (R94). -/
def requestOf (i : Instr) (r : Readings) : Request := requestOn (encode i).1 (encode i).2 r

/-- The readings of a request that carries none. -/
def noReadings : Readings := #v[0, 0, 0, 0]

/-- What a line puts at the ports, one entry for each request it stands for (R102, R103, R104). -/
def Line.inputs (l : Line) : List Inputs :=
  match l with
  | .acq r => [raising (requestOf .acquire r)]
  | .tick => [raising (requestOf .tick noReadings)]
  | .drain => [raising (requestOf .drain noReadings)]
  | .rstcur => [raising (requestOf .resetCursor noReadings)]
  | .rdf i => [raising (requestOf (.rdFrame i) noReadings)]
  | .rdv c => [raising (requestOf (.rdFiltered c) noReadings)]
  | .rdm => [raising (requestOf .rdMetric noReadings)]
  | .rdrT => [raising (requestOf .rdRiskTemp noReadings)]
  | .rdrG => [raising (requestOf .rdRiskGas noReadings)]
  | .rdrC => [raising (requestOf .rdRiskComb noReadings)]
  | .rdoB => [raising (requestOf .rdBuzzer noReadings)]
  | .rdoM => [raising (requestOf .rdMotor noReadings)]
  | .rdflt => [raising (requestOf .rdFault noReadings)]
  | .reset => [{ reset := true, requests := [] }]
  | .ticks n => List.replicate n (raising (requestOf .tick noReadings))
  | .acqn n r => List.replicate n (raising (requestOf .acquire r))
  | .drain16 => List.replicate 16 (raising (requestOf .drain noReadings))
  | .misrouted i p => [raising (requestOn p (encode i).2 noReadings)]

/-- The inputs of a program: its lines', one request for each step, so that each is served before the next is raised
(R102). -/
def programInputs (lines : List Line) : List Inputs := lines.flatMap Line.inputs

/-- The state with the program to come at its inputs. -/
def State.withProgram (s : State) (lines : List Line) : State := s.withEnv (programInputs lines)

end Sys2Proof.Machine
end

