-- ==== Sys2Proof/Safety.lean ====
section
/-! DEFINITION. The terms claims about the block use: its invariants, the reader's check, and what a run shows at the
ports. No step reads anything declared here. -/

namespace Sys2Proof.Machine

/-- The exact sum of the eight readings of one channel's history. -/
def windowSum (h : Vector Reading 8) : Nat := (h.toList.map BitVec.toNat).sum

/-- The filter's invariant (R34, R127): each running sum is the sum of its history, and the slots not yet written since
the last FILTER_RESET hold 0. -/
def State.FilterInv (s : State) : Prop :=
  (∀ c, (s.sumAt c).toNat = windowSum (s.histOf c)) ∧
  (s.filled = false → ∀ c k, s.idx ≤ k → s.histAt c k = 0)

/-- The ticks of one period of a level's pattern (R170); 0 for Normal, which has none. -/
def patternPeriod (cfg : Params) (l : RiskLevel) : Nat :=
  match l with
  | .normal => 0
  | .warning => cfg.onMsWarn.toNat + cfg.offMsWarn.toNat
  | .alarm => cfg.onMsAlarm.toNat + cfg.offMsAlarm.toNat

/-- The ticks of one period during which the buzzer is on (R170). -/
def patternOn (cfg : Params) (l : RiskLevel) : Nat :=
  match l with
  | .normal => 0
  | .warning => cfg.onMsWarn.toNat
  | .alarm => cfg.onMsAlarm.toNat

/-- The bound on the phase counter (R40). -/
def State.PatternInv (cfg : Params) (s : State) : Prop := s.counter.toNat ≤ patternPeriod cfg s.target

/-- The values `S.flt` may hold (R46, R250): none, ILLEGAL_COMMAND, CHANNEL_RANGE. -/
def State.FltInv (s : State) : Prop := s.flt = 0b000 ∨ s.flt = 0b011 ∨ s.flt = 0b101

/-- The XOR of the bytes at offsets 0 to 13. -/
def headXor (f : Offset → Byte) : Byte :=
  f 0 ^^^ f 1 ^^^ f 2 ^^^ f 3 ^^^ f 4 ^^^ f 5 ^^^ f 6 ^^^ f 7 ^^^ f 8 ^^^ f 9 ^^^ f 10 ^^^ f 11 ^^^ f 12 ^^^ f 13

/-- The check a reader must make of a frame before it uses it (R256). -/
def readerAccepts (f : Offset → Byte) : Bool :=
  decide (f 0 = 0xAA) && decide (f 1 = 0x55) && decide (f 15 = 0x0D) && decide (headXor f = f 14)

/-- The offset of the low byte of a channel's field (R71). -/
def channelOffset (c : Channel) : Offset := 4 + 2 * c.zeroExtend 4

/-- A frame's layout (R71, R72) for a sequence number, the two outputs, the two risk states, four channel values and a
metric: every byte but the checksum and the constants. -/
def carries (f : Offset → Byte) (seq : Byte) (buzzer motor : Bool) (temp gas : RiskLevel) (v : Channel → Half)
    (m : Half) : Prop :=
  f 2 = seq ∧
  (f 3).getLsbD 0 = buzzer ∧ (f 3).getLsbD 1 = motor ∧
  (f 3).getLsbD 2 = decide (gas ≠ .normal) ∧ (f 3).getLsbD 3 = decide (temp ≠ .normal) ∧
  (f 3).extractLsb' 4 4 = 0 ∧
  (∀ c, f (channelOffset c) = (v c).extractLsb' 0 8 ∧ f (channelOffset c + 1) = (v c).extractLsb' 8 8) ∧
  f 12 = m.extractLsb' 0 8 ∧ f 13 = m.extractLsb' 8 8

/-- The frame's invariant (R77, R207, R233): the frame memory is canonical, a reader accepts the frame, its high bytes'
upper halves are 0, and it carries the filter values, the metric and the risk states the block holds, with the sequence
number before the next, and some values of the outputs. -/
def State.FrameInv (cfg : Params) (s : State) : Prop :=
  Memory.wf s.frame = true ∧ readerAccepts s.frameByte = true ∧
  (∀ c, (s.frameByte (channelOffset c + 1)).extractLsb' 4 4 = 0) ∧
  ∃ buzzer motor, carries s.frameByte (s.seq - 1) buzzer motor s.tempState s.gasState s.filtered (s.metric cfg)

/-- The block's own invariant: filter, frame, pattern, fault register, and `S.target = COMBINED` (R234). -/
def State.Inv (s : State) : Prop :=
  s.FilterInv ∧ s.FrameInv Config.params ∧ s.PatternInv Config.params ∧ s.FltInv ∧ s.target = s.combined

/-- The two states agree on the four units and the transport's cursor: filter, classifier, pattern, outputs, frame, seq
and cursor (R33 to R44). -/
def State.SameUnits (s t : State) : Prop :=
  t.hist = s.hist ∧ t.sum = s.sum ∧ t.idx = s.idx ∧ t.filled = s.filled ∧
  t.tempState = s.tempState ∧ t.gasState = s.gasState ∧ t.target = s.target ∧ t.counter = s.counter ∧
  t.buzzer = s.buzzer ∧ t.motor = s.motor ∧ t.frame = s.frame ∧ t.seq = s.seq ∧ t.cursor = s.cursor

/-- The two states agree on the four latches: pend bits, command words and the readings (R45). -/
def State.SameLatches (s t : State) : Prop :=
  (∀ p, t.pending p = s.pending p ∧ t.command p = s.command p) ∧ t.acqData = s.acqData

/-- The values RESET leaves (R292): every register the rule names, and no latch set. The frame is the zero frame. -/
def State.AfterReset (t : State) : Prop :=
  (∀ c, t.sumAt c = 0 ∧ ∀ k, t.histAt c k = 0) ∧ t.idx = 0 ∧ t.filled = false ∧
  t.tempState = .normal ∧ t.gasState = .normal ∧ t.combined = .normal ∧ t.target = .normal ∧
  t.counter = 0 ∧ t.buzzer = false ∧ t.motor = false ∧ t.seq = 1 ∧
  (∀ a, t.frameByte a =
    (#v[0xAA, 0x55, 0x00, 0x00, 0x00, 0x00, 0x00, 0x00, 0x00, 0x00, 0x00, 0x00, 0x00, 0x00, 0xFF, 0x0D] :
      Vector Byte 16)[a.toNat]'(a.isLt)) ∧
  t.cursor = 0 ∧ t.flt = 0 ∧ ∀ p, t.pending p = false

/-- The filter as FILTER_RESET leaves it (R124). -/
def State.FilterEmpty (s : State) : Prop :=
  (∀ c, s.sumAt c = 0 ∧ ∀ k, s.histAt c k = 0) ∧ s.idx = 0 ∧ s.filled = false

/-- The block serves commands and has none to serve: not faulted (R253), no latch set (R268). -/
def State.Idle (s : State) : Prop := s.faulted = false ∧ s.nextPort = none

/-- No input to come asserts RESET. -/
def State.NoResetAhead (s : State) : Prop := ∀ i ∈ s.env, i.reset = false

/-- The states a run of `n` steps goes through, the first step's result first. -/
def statesOf : Nat → State → List State
  | 0, _ => []
  | n + 1, s =>
    match step s with
    | .next t => t :: statesOf n t
    | .fault _ => []
    | .refused _ => []

/-- The command the next step serves with its effect: none while the block is faulted, in reset or idle, or where the
word served is illegal (R253, R259, R290). -/
def State.serving (s : State) : Option Instr :=
  match s.nextService with
  | .reset _ => none
  | .idle _ => none
  | .illegal _ _ => none
  | .run _ i _ => if s.faulted then none else some i

/-- The readings of the ACQUIREs served in the next `n` steps, oldest first (R99). -/
def readingsServed : Nat → State → List Readings
  | 0, _ => []
  | n + 1, s =>
    match step s with
    | .next t => if s.serving = some .acquire then s.latched.acqData :: readingsServed n t else readingsServed n t
    | .fault _ => []
    | .refused _ => []

/-- How many TICKs are served in the next `n` steps. -/
def ticksServed : Nat → State → Nat
  | 0, _ => 0
  | n + 1, s =>
    match step s with
    | .next t => if s.serving = some .tick then ticksServed n t + 1 else ticksServed n t
    | .fault _ => 0
    | .refused _ => 0

/-- The bytes a run of `n` steps returns on XPORT (R47, R91), one for each step whose operation returns one. -/
def drainedBytes (n : Nat) (s : State) : List Byte :=
  (statesOf n s).filterMap fun t => if t.xValid then some t.xData else none

end Sys2Proof.Machine
end

