-- ==== Sys2Proof/Certificates/Slice0/Obligations.lean ====
section
/-! DEFINITION. The statements for the provers, one `def Obligations.<Name> : Prop` each. `Config.params` is the
configuration of an arbitrary legal block (notes/assumptions/1.md), so a statement about it holds of every one. -/

open Sys2Proof Sys2Proof.Machine

/-! ### Encoding (30_encoding.md) -/

/-- A word on a port decodes to a command exactly when it is that command's word on that command's port: no command has
a second word, and no bit of an operand is dropped (R92, R94). The words 0x64 to 0x6F on QUERY count as RD_FILTERED c for
c in 4..15, which raises CHANNEL_RANGE, where R98 has such a word decode to CHANNEL_RANGE: the model's reading
(notes/assumptions/19.md). -/
def Obligations.DecodeEncodeAgree : Prop :=
  ∀ (p : Port) (w : Byte) (i : Instr), decode p w = .command i ↔ encode i = (p, w)

/-- The three checks of R97, in its order, on OP and SEL as numbers, with the words of R96 and the ports of R94. -/
def Obligations.DecodeChecksInOrder : Prop :=
  ∀ (p : Port) (w : Byte),
    let op := w.toNat / 16
    let sel := w.toNat % 16
    let reserved := op = 0 ∨ 0xB ≤ op
    let port : Port := if op = 1 then .acq else if op = 2 then .tick else if op = 3 ∨ op = 4 then .xport else .query
    let badSel := ((op = 1 ∨ op = 2 ∨ op = 3 ∨ op = 4 ∨ op = 7 ∨ op = 0xA) ∧ sel ≠ 0) ∨ (op = 8 ∧ 3 ≤ sel) ∨
      (op = 9 ∧ 2 ≤ sel)
    (decode p w = .illegal .reservedOp ↔ reserved) ∧
    (decode p w = .illegal .wrongPort ↔ ¬reserved ∧ p ≠ port) ∧
    (decode p w = .illegal .illegalSel ↔ ¬reserved ∧ p = port ∧ badSel)

/-- Words written out from R94 decode to the commands R94 gives them, one of each operation code. -/
def Obligations.SpecWordsDecode : Prop :=
  decode .acq 0b00010000 = .command .acquire ∧ decode .tick 0b00100000 = .command .tick ∧
  decode .xport 0b00110000 = .command .drain ∧ decode .xport 0b01000000 = .command .resetCursor ∧
  decode .query 0b01011111 = .command (.rdFrame 15) ∧ decode .query 0b01100011 = .command (.rdFiltered 3) ∧
  decode .query 0b01110000 = .command .rdMetric ∧ decode .query 0b10000010 = .command .rdRiskComb ∧
  decode .query 0b10010001 = .command .rdMotor ∧ decode .query 0b10100000 = .command .rdFault ∧
  decode .query 0b00010000 = .illegal .wrongPort ∧ decode .query 0b10000011 = .illegal .illegalSel ∧
  decode .tick 0b10110000 = .illegal .reservedOp

/-! ### One step (60_exceptions.md) -/

/-- The port served is the highest-priority pending one, in the order ACQ > XPORT > TICK > QUERY, and there is none
exactly when no latch is set (R259, R268). -/
def Obligations.HighestPriorityPortIsServed : Prop :=
  ∀ s : State,
    let rank : Port → Nat := fun p => match p with | .acq => 1 | .xport => 2 | .tick => 3 | .query => 4
    (∀ p, s.nextPort = some p ↔ s.pending p = true ∧ ∀ q, rank q < rank p → s.pending q = false) ∧
    (s.nextPort = none ↔ ∀ p, s.pending p = false)

/-- A step in which RESET is not asserted latches the step's requests, and where a port's latched word is a command,
runs that command's exec on the latched state and then clears the port's latch (R259, R260, R261). -/
def Obligations.StepRunsTheDecodedCommand : Prop :=
  ∀ (s t : State) (p : Port) (i : Instr),
    s.inputs.reset = false → s.latched.nextPort = some p → decode p (s.latched.command p) = .command i →
    exec i s.latched = .next t → step s = .next (t.clearLatch p)

/-- The word of a command placed by `withFetchWord` is what the very next step runs, from every state: the step is exec
of that command with the placed word latched, and the latch is then clear. How a word is placed is the model's own
(notes/assumptions/15.md). -/
def Obligations.PlacedWordRunsNext : Prop :=
  ∀ (s : State) (i : Instr),
    step (s.withFetchWord 8 (encode i).2.toNat) =
      complete (encode i).1 (exec i ((s.withFetchWord 8 (encode i).2.toNat).withEnv s.env))

/-- An illegal word served while the block is not faulted raises ILLEGAL_COMMAND: `S.flt` is 0b011, the four units are
as before, its own latch is clear, every other latch is as it was, and no value is returned (R96, R250, R251). What the
valid strobes show is the model's reading (notes/assumptions/20.md). -/
def Obligations.IllegalWordRaisesIllegalCommand : Prop :=
  ∀ (s : State) (p : Port) (why : Illegal),
    s.inputs.reset = false → s.latched.nextPort = some p → decode p (s.latched.command p) = .illegal why →
    s.faulted = false →
    ∃ t, step s = .next t ∧ t.flt = 0b011 ∧ s.SameUnits t ∧ t.pending p = false ∧
      (∀ q, q ≠ p → t.pending q = s.latched.pending q ∧ t.command q = s.latched.command q) ∧
      t.env = s.env.tail ∧ t.xValid = false ∧ t.qValid = false

/-- The fault entry: nothing while FAULTED is 1; otherwise `S.flt <- {code[1:0], 1}`, codes 1 and 2, and nothing else
(R250, R251). -/
def Obligations.FaultEntryWritesOnlyFlt : Prop :=
  ∀ s : State,
    s.raiseFault .illegalCommand = (if s.flt.getLsbD 0 then s else { s with flt := 0b011 }) ∧
    s.raiseFault .channelRange = (if s.flt.getLsbD 0 then s else { s with flt := 0b101 })

/-- An idle block takes no step: with no latch set and no input its state does not change (R268). That an idle block's
step is a next state is the model's choice (notes/assumptions/6.md). -/
def Obligations.IdleBlockIsUnchanged : Prop :=
  ∀ s : State, s.env = [] → s.nextPort = none → step s = .next s

/-- A request on a port whose latch is set is lost; otherwise its word is captured and, for ACQ, its readings, and
nothing else changes (R258). -/
def Obligations.RequestIsCapturedOrLost : Prop :=
  ∀ (s : State) (w : Byte) (r : Readings),
    s.raise (.acq w r) = (if s.pendAcq then s else { s with pendAcq := true, acqCmd := w, acqData := r }) ∧
    s.raise (.xport w) = (if s.pendX then s else { s with pendX := true, xCmd := w }) ∧
    s.raise (.tick w) = (if s.pendTick then s else { s with pendTick := true, tickCmd := w }) ∧
    s.raise (.query w) = (if s.pendQ then s else { s with pendQ := true, qCmd := w })

/-- The block never stops: every step from every state has a next state. The model's choice that a fault of the block is
a next state rests on R251 and R253. See notes/assumptions/23.md. -/
def Obligations.StepNeverStops : Prop := ∀ s : State, ∃ t, step s = .next t

/-! ### Sample Filter (40_filter.md) -/

/-- ACQUIRE's INGEST: idx advances mod 8, filled is set on the wrap, and in each channel the slot at idx takes the new
reading, the sum gains it and loses the evicted one, and every other slot stays (R120). The sum is stated mod 2^16 over
all states, which is the exact sum of R120 wherever the invariant of R34 holds (notes/assumptions/7.md). -/
def Obligations.AcquireIngestsTheReadings : Prop :=
  ∀ s : State, s.faulted = false →
    ∃ t, exec .acquire s = .next t ∧ t.idx = s.idx + 1 ∧ t.filled = (s.filled || decide (s.idx = 7)) ∧
      ∀ c : Channel,
        t.sumAt c = s.sumAt c + (s.acqData[c.toNat]'(c.isLt)).setWidth 16 - (s.histAt c s.idx).setWidth 16 ∧
        ∀ k : Slot, t.histAt c k = if k = s.idx then s.acqData[c.toNat]'(c.isLt) else s.histAt c k

/-- RD_FILTERED c for c in 0..3 returns the truncated mean of the samples seen so far, at most 8, or 0 before the first,
and changes nothing else (R121, R122, R125). What the valid strobes show is the model's reading
(notes/assumptions/20.md). -/
def Obligations.RdFilteredReturnsTheMean : Prop :=
  ∀ (s : State) (c : Channel), s.faulted = false →
    exec (.rdFiltered (c.setWidth 4)) s =
      .next { s with
        qData :=
          (let count := if s.filled then 8 else s.idx.toNat
           if count = 0 then 0 else BitVec.ofNat 16 ((s.sumAt c).toNat / count))
        qValid := true
        xValid := false }

/-- RD_FILTERED c for c in 4..15 raises CHANNEL_RANGE: `S.flt` is 0b101, nothing else of the block changes, and no value
is returned (R125, R250, R251). What the valid strobes show is the model's reading (notes/assumptions/20.md). -/
def Obligations.ChannelOutOfRangeFaults : Prop :=
  ∀ (s : State) (c : BitVec 4), s.faulted = false → 3 < c.toNat →
    ∃ t, exec (.rdFiltered c) s = .next t ∧ t.flt = 0b101 ∧ s.SameUnits t ∧ s.SameLatches t ∧ t.env = s.env ∧
      t.xValid = false ∧ t.qValid = false

/-- RD_METRIC returns (FILTERED(TEMP_CHANNEL) * SCALE_NUM) div SCALE_DEN mod 2^16 and changes nothing else (R123, R126).
What the valid strobes show is the model's reading (notes/assumptions/20.md). -/
def Obligations.RdMetricReturnsTheScaledValue : Prop :=
  ∀ s : State, s.faulted = false →
    exec .rdMetric s =
      .next { s with
        qData := BitVec.ofNat 16
          ((s.filtered Config.params.tempChannel).toNat * Config.params.scaleNum / Config.params.scaleDen)
        qValid := true
        xValid := false }

/-- The running sums equal the sums of their histories after reset, and after every step if they do before it (the slots
not yet written holding 0), and no sum exceeds 32760 (R34). -/
def Obligations.StepKeepsTheRunningSums : Prop :=
  State.reset.FilterInv ∧
  (∀ s t : State, s.FilterInv → step s = .next t → t.FilterInv) ∧
  (∀ s : State, s.FilterInv → ∀ c, (s.sumAt c).toNat ≤ 32760)

/-- From an empty filter, after any run without a RESET, whatever else it serves: with `rs` the readings of the ACQUIREs
served, each sum is the exact sum of the last min(8, T) readings of its channel and at most 32760, the slots hold those
readings, and the slots not yet written hold 0 (R127). -/
def Obligations.FilterHoldsTheLastEightReadings : Prop :=
  ∀ (n : Nat) (s : State), s.FilterEmpty → s.NoResetAhead →
    ∃ t : State, Host.Core.run core n s = .next t ∧
      ∀ (rs : List Readings), rs = readingsServed n s → ∀ c : Channel,
        (t.sumAt c).toNat = ((rs.drop (rs.length - 8)).map fun r => (r[c.toNat]'(c.isLt)).toNat).sum ∧
        (t.sumAt c).toNat ≤ 32760 ∧
        (∀ m, (h : m < rs.length) → rs.length ≤ m + 8 → t.histAt c (BitVec.ofNat 3 m) = rs[m][c.toNat]'(c.isLt)) ∧
        (∀ k : Slot, rs.length ≤ k.toNat → t.histAt c k = 0)

/-- T ACQUIREs raised one after another at an idle block with an empty filter are all served, and FILTERED(c) is then the
truncated mean of the last min(8, T) readings of channel c, and 0 for T = 0: the warm-up means and the moving average
(R121, R122, R306). -/
def Obligations.FilteredIsTheMovingAverage : Prop :=
  ∀ (s : State) (rs : List Readings), s.Idle → s.FilterEmpty →
    ∃ t : State, Host.Core.run core rs.length (s.withProgram (rs.map .acq)) = .next t ∧
      readingsServed rs.length (s.withProgram (rs.map .acq)) = rs ∧
      ∀ c : Channel, (t.filtered c).toNat =
        ((rs.drop (rs.length - 8)).map fun r => (r[c.toNat]'(c.isLt)).toNat).sum / min 8 rs.length

/-- Once set, `S.filled` stays 1 through every step that is not a RESET, and RESET clears it (R128). -/
def Obligations.FilledIsPermanent : Prop :=
  ∀ s t : State, step s = .next t → s.filled = true → t.filled = !s.inputs.reset

/-- Lanes are independent: two states that share idx, filled and one channel's sum, history and incoming reading have the
same filtered value of that channel, and after ACQUIRE still share its sum, history and filtered value, whatever the other
channels hold (R129). -/
def Obligations.LanesAreIndependent : Prop :=
  ∀ (s t : State) (c : Channel), s.faulted = false → t.faulted = false →
    s.idx = t.idx → s.filled = t.filled → s.sumAt c = t.sumAt c → (∀ k, s.histAt c k = t.histAt c k) →
    s.acqData[c.toNat]'(c.isLt) = t.acqData[c.toNat]'(c.isLt) →
    s.filtered c = t.filtered c ∧
    ∃ u v, exec .acquire s = .next u ∧ exec .acquire t = .next v ∧
      u.sumAt c = v.sumAt c ∧ (∀ k, u.histAt c k = v.histAt c k) ∧ u.filtered c = v.filtered c

/-! ### Risk Classifier (41_classifier.md) -/

/-- ACQUIRE advances each comparator one STEP: temperature on FILTERED(TEMP_CHANNEL) or the metric, as TEMP_CLASS_SOURCE
says, gas on FILTERED(GAS_CHANNEL), both read after this ACQUIRE's INGEST (R151, R152, R153). The literals are
configuration defaults (notes/assumptions/10.md). -/
def Obligations.AcquireStepsBothComparators : Prop :=
  let step3 : RiskLevel → Half → Thresholds → RiskLevel := fun level v th =>
    match level with
    | .normal => if v.toNat ≥ th.alarmEnter.toNat then .alarm
                 else if v.toNat ≥ th.warnEnter.toNat then .warning else .normal
    | .warning => if v.toNat ≥ th.alarmEnter.toNat then .alarm
                  else if v.toNat ≤ th.warnExit.toNat then .normal else .warning
    | .alarm => if v.toNat ≤ th.alarmExit.toNat then .warning else .alarm
  ∀ s : State, s.faulted = false →
    ∃ t, exec .acquire s = .next t ∧
      t.tempState = step3 s.tempState
        (match Config.params.tempClassSource with
          | .filtered => t.filtered Config.params.tempChannel
          | .metric => t.metric Config.params)
        ⟨350, 330, Config.params.tempAlarmEnter, Config.params.tempAlarmExit⟩ ∧
      t.gasState = step3 s.gasState (t.filtered Config.params.gasChannel)
        ⟨Config.params.gasWarnEnter, Config.params.gasWarnExit, Config.params.gasAlarmEnter, Config.params.gasAlarmExit⟩

/-- Which inputs make each transition of an ordered comparator: enter on `≥`, exit on `≤`, and from Alarm never to
Normal (R151, R160). -/
def Obligations.ComparatorTransitions : Prop :=
  ∀ (th : Thresholds) (v : Half), th.ordered = true →
    (riskStep .normal v th = .alarm ↔ th.alarmEnter ≤ v) ∧
    (riskStep .normal v th = .warning ↔ th.warnEnter ≤ v ∧ v < th.alarmEnter) ∧
    (riskStep .warning v th = .alarm ↔ th.alarmEnter ≤ v) ∧
    (riskStep .warning v th = .normal ↔ v ≤ th.warnExit) ∧
    (riskStep .alarm v th = .warning ↔ v ≤ th.alarmExit) ∧
    riskStep .alarm v th ≠ .normal ∧ riskStep .alarm 0 th = .warning ∧ riskStep .warning 0 th = .normal

/-- In Warning, a sequence of values strictly between the warn exit and the alarm enter never leaves Warning (R158). -/
def Obligations.NoFlickerInWarning : Prop :=
  ∀ (th : Thresholds) (vs : List Half), (∀ v ∈ vs, th.warnExit < v ∧ v < th.alarmEnter) →
    vs.foldl (fun level v => riskStep level v th) .warning = .warning

/-- STEP never goes from Alarm to Normal, whatever the value and the thresholds, and no step of the block that is not a
RESET takes a comparator from Alarm to Normal: the state reaches Normal only through Warning (R159). -/
def Obligations.AlarmNeverDropsToNormal : Prop :=
  (∀ (v : Half) (th : Thresholds), riskStep .alarm v th ≠ .normal) ∧
  ∀ s t : State, s.inputs.reset = false → step s = .next t →
    (s.tempState = .alarm → t.tempState ≠ .normal) ∧ (s.gasState = .alarm → t.gasState ≠ .normal)

/-- RD_RISK_TEMP, RD_RISK_GAS and RD_RISK_COMB return the code of the level (Normal 0, Warning 1, Alarm 2), combined
being the greater of the two, and change nothing else (R38, R154 to R157). What the valid strobes show is the model's
reading (notes/assumptions/20.md). -/
def Obligations.RdRiskReturnsTheLevelCode : Prop :=
  let code : RiskLevel → Nat := fun l => match l with | .normal => 0 | .warning => 1 | .alarm => 2
  ∀ s : State, s.faulted = false →
    exec .rdRiskTemp s =
      .next { s with qData := BitVec.ofNat 16 (code s.tempState), qValid := true, xValid := false } ∧
    exec .rdRiskGas s =
      .next { s with qData := BitVec.ofNat 16 (code s.gasState), qValid := true, xValid := false } ∧
    exec .rdRiskComb s =
      .next { s with qData := BitVec.ofNat 16 (max (code s.tempState) (code s.gasState)), qValid := true, xValid := false }

/-! ### Actuator Pattern Driver (42_pattern.md) -/

/-- After every ACQUIRE the target is COMBINED of the new risk states, and the counter is 0 if that changed the target and
unchanged otherwise (R171, R234). -/
def Obligations.TargetFollowsCombined : Prop :=
  ∀ s : State, s.faulted = false →
    ∃ t, exec .acquire s = .next t ∧ t.target = t.combined ∧
      t.counter = (if t.target = s.target then s.counter else 0)

/-- TICK writes the counter and the two outputs as R172 says for the target, in the order increment, evaluate, wrap, and
changes nothing else. The timings are R11's (R172). What the valid strobes show is the model's reading
(notes/assumptions/20.md). The literals are configuration defaults (notes/assumptions/10.md). -/
def Obligations.TickDrivesTheOutputs : Prop :=
  ∀ s : State, s.faulted = false →
    exec .tick s = .next
      (match s.target with
        | .normal => { s with counter := 0, buzzer := false, motor := false, xValid := false, qValid := false }
        | .warning =>
          { s with
            counter := if s.counter.toNat + 1 ≥ 1000 then 0 else BitVec.ofNat 16 (s.counter.toNat + 1)
            buzzer := decide (s.counter.toNat + 1 ≤ 100)
            motor := false
            xValid := false
            qValid := false }
        | .alarm =>
          { s with
            counter := if s.counter.toNat + 1 ≥ 100 then 0 else BitVec.ofNat 16 (s.counter.toNat + 1)
            buzzer := decide (s.counter.toNat + 1 ≤ 50)
            motor := true
            xValid := false
            qValid := false })

/-- In any run, whatever else it serves, in which the target stays Warning or Alarm from a state with the counter at 0 (as
a SET_TARGET that changed it leaves it): after the j-th TICK served the buzzer is on exactly when
((j - 1) mod (ON + OFF)) < ON (R173), and the motor is on exactly in Alarm (R170). That ON and ON + OFF are 100 and 1000
in Warning and 50 and 100 in Alarm rests on the default timings (notes/assumptions/10.md). -/
def Obligations.WaveformLaw : Prop :=
  patternOn Config.params .warning = 100 ∧ patternPeriod Config.params .warning = 1000 ∧
  patternOn Config.params .alarm = 50 ∧ patternPeriod Config.params .alarm = 100 ∧
  ∀ (n : Nat) (s : State), s.target ≠ .normal → s.counter = 0 → (∀ t ∈ statesOf n s, t.target = s.target) →
    1 ≤ ticksServed n s →
    ∃ t : State, Host.Core.run core n s = .next t ∧
      t.buzzer = decide ((ticksServed n s - 1) % patternPeriod Config.params s.target < patternOn Config.params s.target) ∧
      t.motor = decide (s.target = .alarm)

/-- The phase counter stays within the period of the target's pattern, and is 0 under a Normal target, after every step
if it is before it (R40). -/
def Obligations.StepKeepsTheCounterInThePeriod : Prop :=
  ∀ s t : State, s.PatternInv Config.params → step s = .next t → t.PatternInv Config.params

/-- RD_BUZZER and RD_MOTOR return the output bit and change nothing else (R175, R176). What the valid strobes show is
the model's reading (notes/assumptions/20.md). -/
def Obligations.RdOutputsReturnTheBits : Prop :=
  ∀ s : State, s.faulted = false →
    exec .rdBuzzer s = .next { s with qData := if s.buzzer then 1 else 0, qValid := true, xValid := false } ∧
    exec .rdMotor s = .next { s with qData := if s.motor then 1 else 0, qValid := true, xValid := false }

/-! ### Frame Publisher and drain port (20_memory.md, 43_frame.md) -/

/-- ACQUIRE publishes one whole frame: the constants, seq, the status byte of the outputs as they were and of the new
risk states, the four filtered values and the metric after INGEST (little-endian), the XOR of bytes 0 to 13, the end
marker. seq is then incremented and the cursor is 0 (R71, R72, R200, R201, R230, R231). The byte order rests on
notes/assumptions/8.md. The literals are configuration defaults (notes/assumptions/10.md). -/
def Obligations.AcquirePublishesTheFrame : Prop :=
  ∀ s : State, s.faulted = false →
    ∃ t, exec .acquire s = .next t ∧
      t.frameByte 0 = 0xAA ∧ t.frameByte 1 = 0x55 ∧ t.frameByte 15 = 0x0D ∧
      t.frameByte 14 = headXor t.frameByte ∧
      carries t.frameByte s.seq s.buzzer s.motor t.tempState t.gasState t.filtered (t.metric Config.params) ∧
      t.seq = s.seq + 1 ∧ t.cursor = 0

/-- What ACQUIRE leaves unchanged: the outputs, the fault register, the latches, the inputs to come and the data
outputs; it returns nothing (R174, R230). What the valid strobes show is the model's reading (notes/assumptions/20.md).
-/
def Obligations.AcquireLeavesTheRest : Prop :=
  ∀ s : State, s.faulted = false →
    ∃ t, exec .acquire s = .next t ∧ t.buzzer = s.buzzer ∧ t.motor = s.motor ∧ t.flt = s.flt ∧ s.SameLatches t ∧
      t.env = s.env ∧ t.draws = s.draws ∧ t.xData = s.xData ∧ t.qData = s.qData ∧ t.xValid = false ∧ t.qValid = false

/-- RD_FRAME i returns the frame's byte i and changes nothing else: neither the frame nor the cursor (R204). What the
valid strobes show is the model's reading (notes/assumptions/20.md). -/
def Obligations.RdFrameReturnsTheByte : Prop :=
  ∀ (s : State) (i : BitVec 4), s.faulted = false →
    exec (.rdFrame i) s = .next { s with qData := (s.frameByte i).setWidth 16, qValid := true, xValid := false }

/-- DRAIN returns the byte at the cursor and advances the cursor mod 16, and changes nothing else (R205; the wrap past
byte 15 is the spec's own decision, notes/assumptions/18.md). What the valid strobes show is the model's reading
(notes/assumptions/20.md). -/
def Obligations.DrainReturnsTheByteAtTheCursor : Prop :=
  ∀ s : State, s.faulted = false →
    exec .drain s = .next { s with cursor := s.cursor + 1, xData := s.frameByte s.cursor, xValid := true, qValid := false }

/-- RESET_CURSOR sets the cursor to 0, returns nothing, and changes nothing else of the block; the XPORT data output,
which no operation has driven, and the free-value index are left open (R101, R206; notes/assumptions/13.md). What the
valid strobes show is the model's reading (notes/assumptions/20.md). -/
def Obligations.ResetCursorRestartsTheDrain : Prop :=
  ∀ s : State, s.faulted = false →
    ∃ t, exec .resetCursor s = .next t ∧
      t = { s with cursor := 0, xData := t.xData, draws := t.draws, xValid := false, qValid := false }

/-- Sixteen DRAINs served from cursor 0, with nothing served between them, return the sixteen bytes of the frame in
order and leave the frame as it is (R205, R301). What the valid strobes show is the model's reading
(notes/assumptions/20.md). -/
def Obligations.SixteenDrainsReturnTheFrame : Prop :=
  ∀ s : State, s.Idle → s.cursor = 0 →
    drainedBytes 16 (s.withProgram [.drain16]) =
      [s.frameByte 0, s.frameByte 1, s.frameByte 2, s.frameByte 3, s.frameByte 4, s.frameByte 5, s.frameByte 6,
       s.frameByte 7, s.frameByte 8, s.frameByte 9, s.frameByte 10, s.frameByte 11, s.frameByte 12, s.frameByte 13,
       s.frameByte 14, s.frameByte 15] ∧
    ∃ t : State, Host.Core.run core 16 (s.withProgram [.drain16]) = .next t ∧ t.frame = s.frame

/-- After any step the frame is the old frame, or a whole new frame in a canonical memory that passes the reader's check
(R77, R256), from every state. The literals are configuration defaults (notes/assumptions/10.md). -/
def Obligations.FrameIsOldOrWhollyNew : Prop :=
  ∀ s t : State, step s = .next t →
    t.frame = s.frame ∨ (Memory.wf t.frame = true ∧ readerAccepts t.frameByte = true)

/-- Every frame the block ever holds, after any number of steps from reset with any inputs: the constants, the checksum
(in both of the rule's forms), the status byte's bits 7:4 and the upper halves of the channels' high bytes 0 (R207). -/
def Obligations.EveryFrameIsWellFormed : Prop :=
  ∀ (n : Nat) (inputs : List Inputs),
    ∃ t : State, Host.Core.run core n (State.reset.withEnv inputs) = .next t ∧
      t.frameByte 0 = 0xAA ∧ t.frameByte 1 = 0x55 ∧ t.frameByte 15 = 0x0D ∧
      headXor t.frameByte = t.frameByte 14 ∧ headXor t.frameByte ^^^ t.frameByte 14 = 0 ∧
      (t.frameByte 3).extractLsb' 4 4 = 0 ∧
      ∀ c : Channel, (t.frameByte (channelOffset c + 1)).extractLsb' 4 4 = 0

/-- In any run after reset without another RESET, whatever else it serves, the frame carries seq n mod 256, where n
ACQUIREs have been served: the zero frame is the 0th frame built, and the n-th ACQUIRE publishes seq n mod 256 (R208). -/
def Obligations.SequenceLaw : Prop :=
  ∀ (n : Nat) (s : State), s.AfterReset → s.NoResetAhead →
    ∃ t : State, Host.Core.run core n s = .next t ∧ (t.frameByte 2).toNat = (readingsServed n s).length % 256

/-- Where the frame carries what the block holds, which every step keeps, RD_METRIC and RD_FILTERED return the frame's
own fields, the status bits 2 and 3 say whether RD_RISK_GAS and RD_RISK_TEMP return 0, and RD_RISK_COMB returns 0
exactly when both are 0 (R126, R233). The order of the two bytes of a field rests on notes/assumptions/8.md. -/
def Obligations.QueriesAgreeWithTheFrame : Prop :=
  ∀ s : State, s.faulted = false → s.FrameInv Config.params →
    (∃ t, exec .rdMetric s = .next t ∧ t.qData = s.frameByte 13 ++ s.frameByte 12) ∧
    (∀ c : Channel, ∃ t, exec (.rdFiltered (c.setWidth 4)) s = .next t ∧
      t.qData = s.frameByte (channelOffset c + 1) ++ s.frameByte (channelOffset c)) ∧
    (∃ t, exec .rdRiskGas s = .next t ∧ (s.frameByte 3).getLsbD 2 = decide (t.qData ≠ 0)) ∧
    (∃ t, exec .rdRiskTemp s = .next t ∧ (s.frameByte 3).getLsbD 3 = decide (t.qData ≠ 0)) ∧
    (∃ t, exec .rdRiskComb s = .next t ∧
      (t.qData = 0 ↔ (s.frameByte 3).getLsbD 2 = false ∧ (s.frameByte 3).getLsbD 3 = false))

/-- Query commands have no side effect: repeating one returns the same value, and the four units are as they were (R76).
What the valid strobes show is the model's reading (notes/assumptions/20.md). -/
def Obligations.QueriesAreIdempotent : Prop :=
  ∀ (s t u : State) (i : Instr), s.faulted = false → (encode i).1 = .query → i.wellFormed = true →
    exec i s = .next t → exec i t = .next u →
    u.qData = t.qData ∧ t.qValid = true ∧ u.qValid = true ∧ s.SameUnits u ∧ s.SameLatches u ∧ u.flt = s.flt

/-! ### The Faulted state (60_exceptions.md) -/

/-- RD_FAULT returns `S.flt` in every state, faulted or not, and changes nothing else (R252, R253). What the valid
strobes show is the model's reading (notes/assumptions/20.md). -/
def Obligations.RdFaultReturnsTheRegister : Prop :=
  ∀ s : State,
    exec .rdFault s = .next { s with qData := s.flt.setWidth 16, qValid := true, xValid := false }

/-- In the Faulted state every other command is consumed: no unit, no latch and no fault register changes (R253). -/
def Obligations.FaultedBlockConsumesCommands : Prop :=
  ∀ (s : State) (i : Instr), s.faulted = true → i ≠ .rdFault →
    ∃ t, exec i s = .next t ∧ s.SameUnits t ∧ s.SameLatches t ∧ t.flt = s.flt ∧ t.env = s.env

/-- A faulted block stays faulted, with its fault register and its four units unchanged, through any number of steps with
any requests, as long as RESET is not asserted, and a step in which RESET is asserted leaves the Faulted state
(R253, R254). -/
def Obligations.FaultedUntilReset : Prop :=
  (∀ (n : Nat) (s : State), s.faulted = true → s.NoResetAhead →
    ∃ t : State, Host.Core.run core n s = .next t ∧ t.faulted = true ∧ t.flt = s.flt ∧ s.SameUnits t) ∧
  ∀ s : State, s.inputs.reset = true → ∃ t : State, step s = .next t ∧ t.faulted = false ∧ t.flt = 0

/-- The fault register holds 0, ILLEGAL_COMMAND or CHANNEL_RANGE after every step if it does before it: CODE 3 is never
written, and CODE is 0 exactly while not faulted (R46, R250). -/
def Obligations.StepKeepsTheFaultRegisterLegal : Prop :=
  ∀ s t : State, s.FltInv → step s = .next t → t.FltInv

/-! ### Reset, ownership and the whole block (10_state.md, 20_memory.md, 70_reset_and_hazards.md) -/

/-- The reset state holds the values R292 gives, in a canonical frame memory. -/
def Obligations.ResetStateHoldsTheResetValues : Prop :=
  State.reset.AfterReset ∧ Memory.wf State.reset.frame = true

/-- A step in which RESET is asserted leaves the values R292 gives, from every state, the Faulted state among them: no
latch is set, so the requests raised with it are lost (R290, R291, R292, R294). -/
def Obligations.ResetRestoresEveryRegister : Prop :=
  ∀ s : State, s.inputs.reset = true →
    ∃ t, step s = .next t ∧ t.AfterReset ∧ Memory.wf t.frame = true ∧ t.env = s.env.tail

/-- Single-writer ownership: in a step that is not a RESET, each piece of state changes only if the command served is one
of its writers. The fault register changes only where the block is not faulted and the word served is illegal, or the
command served is RD_FILTERED c with c above 3, and then to that fault's value. Of the pending latches the step clears the
served one alone (R79). -/
def Obligations.SingleWriterOwnership : Prop :=
  ∀ s t : State, s.inputs.reset = false → step s = .next t →
    (s.serving ≠ some .acquire →
      t.hist = s.hist ∧ t.sum = s.sum ∧ t.idx = s.idx ∧ t.filled = s.filled ∧
      t.tempState = s.tempState ∧ t.gasState = s.gasState ∧ t.target = s.target ∧
      t.seq = s.seq ∧ t.frame = s.frame) ∧
    (s.serving ≠ some .tick → t.buzzer = s.buzzer ∧ t.motor = s.motor ∧ (t.counter = s.counter ∨ t.counter = 0)) ∧
    (s.serving ≠ some .tick → s.serving ≠ some .acquire → t.counter = s.counter) ∧
    (s.serving ≠ some .drain → s.serving ≠ some .resetCursor → s.serving ≠ some .acquire → t.cursor = s.cursor) ∧
    (t.flt ≠ s.flt → s.faulted = false ∧
      ((∃ p why, s.latched.nextPort = some p ∧ decode p (s.latched.command p) = .illegal why ∧ t.flt = 0b011) ∨
       (∃ c, s.serving = some (.rdFiltered c) ∧ 3 < c.toNat ∧ t.flt = 0b101))) ∧
    ∀ p, t.pending p = (s.latched.pending p && decide (s.latched.nextPort ≠ some p))

/-- The block's invariant holds after every step if it holds before it: the running sums, the frame that mirrors the
filter and the risk states and passes the reader's check, the counter within its period, a legal fault register, and
`S.target = COMBINED` (R34, R40, R46, R207, R233, R234). The order of the two bytes of a field rests on
notes/assumptions/8.md. -/
def Obligations.StepKeepsTheBlockInvariant : Prop :=
  ∀ s t : State, s.Inv → step s = .next t → t.Inv

/-- The reset state meets the block's invariant. The order of the two bytes of a field rests on notes/assumptions/8.md.
-/
def Obligations.ResetStateMeetsTheInvariant : Prop := State.reset.Inv

/-- The configuration is well-formed, TEMP_ALARM_ENTER is above 360 (notes/assumptions/11.md), every constant that R48's
table gives a value has that value (notes/assumptions/10.md), and a model refuses exactly the ill-formed configurations
(R13, R15, R48). -/
def Obligations.OnlyWellFormedConfigurations : Prop :=
  Config.params.wellFormed = true ∧ 360 < Config.params.tempAlarmEnter.toNat ∧
  Config.params.tempWarnEnter = 350 ∧ Config.params.tempWarnExit = 330 ∧
  Config.params.onMsWarn = 100 ∧ Config.params.offMsWarn = 900 ∧
  Config.params.onMsAlarm = 50 ∧ Config.params.offMsAlarm = 50 ∧
  Config.params.sync0 = 0xAA ∧ Config.params.sync1 = 0x55 ∧ Config.params.endMarker = 0x0D ∧
  ∀ p : Params, Config.accept p = none ↔
    ¬(p.tempAlarmEnter > p.tempWarnEnter ∧ p.tempWarnEnter > p.tempWarnExit ∧
      p.tempAlarmEnter > p.tempAlarmExit ∧ p.tempAlarmExit > p.tempWarnExit ∧
      p.gasAlarmEnter > p.gasWarnEnter ∧ p.gasWarnEnter > p.gasWarnExit ∧
      p.gasAlarmEnter > p.gasAlarmExit ∧ p.gasAlarmExit > p.gasWarnExit ∧
      1 ≤ p.scaleDen ∧ 1 ≤ p.onMsWarn.toNat ∧ p.onMsWarn.toNat + p.offMsWarn.toNat ≤ 65535 ∧
      1 ≤ p.onMsAlarm.toNat ∧ p.onMsAlarm.toNat + p.offMsAlarm.toNat ≤ 65535)

/-- A program of request lines is served in order, one request in each step. The step after k steps takes the program's
k-th input: where that is RESET it runs the reset sequence, and where it is a request the word and, on ACQ, the readings
latched are that request's, and the step serves it: the command its word decodes to on its port, or an illegal word. No
latch is set after the step. After as many steps as the program has inputs, none is left (R102, R103, R104). The
schedule that holds the requests is the model's own (notes/assumptions/4.md). -/
def Obligations.ProgramsAreServedInOrder : Prop :=
  ∀ (s : State) (lines : List Line), s.nextPort = none →
    (∀ (k : Nat) (h : k < (programInputs lines).length),
      ∃ u v : State, Host.Core.run core k (s.withProgram lines) = .next u ∧ step u = .next v ∧ v.nextPort = none ∧
        (((programInputs lines)[k].reset = true ∧ u.nextService = .reset (u.withEnv u.env.tail)) ∨
         ∃ r : Request, (programInputs lines)[k] = { reset := false, requests := [r] } ∧
          u.latched.command (portOf r) = wordOf r ∧ (∀ w readings, r = .acq w readings → u.latched.acqData = readings) ∧
          u.nextService =
            (match decode (portOf r) (wordOf r) with
              | .command i => .run (portOf r) i u.latched
              | .illegal _ => .illegal (portOf r) u.latched))) ∧
    ∃ t : State, Host.Core.run core (programInputs lines).length (s.withProgram lines) = .next t ∧
      t.env = [] ∧ t.nextPort = none
end

