-- ==== Sys2Proof/Laws/State.lean ====
section
/-! SUPPORT. One lemma for each field of State under each named update of Machine/Ops.lean, so that no proof unfolds a
record update. -/

namespace Sys2Proof.Machine

variable (s : State)

@[simp] theorem State.withFilter_hist (h : Vector (Vector Reading 8) 4) (m : Vector Half 4) (i : Slot) (f : Bool) : (s.withFilter h m i f).hist = h := rfl
@[simp] theorem State.withFilter_sum (h : Vector (Vector Reading 8) 4) (m : Vector Half 4) (i : Slot) (f : Bool) : (s.withFilter h m i f).sum = m := rfl
@[simp] theorem State.withFilter_idx (h : Vector (Vector Reading 8) 4) (m : Vector Half 4) (i : Slot) (f : Bool) : (s.withFilter h m i f).idx = i := rfl
@[simp] theorem State.withFilter_filled (h : Vector (Vector Reading 8) 4) (m : Vector Half 4) (i : Slot) (f : Bool) : (s.withFilter h m i f).filled = f := rfl
@[simp] theorem State.withFilter_tempState (h : Vector (Vector Reading 8) 4) (m : Vector Half 4) (i : Slot) (f : Bool) : (s.withFilter h m i f).tempState = s.tempState := rfl
@[simp] theorem State.withFilter_gasState (h : Vector (Vector Reading 8) 4) (m : Vector Half 4) (i : Slot) (f : Bool) : (s.withFilter h m i f).gasState = s.gasState := rfl
@[simp] theorem State.withFilter_target (h : Vector (Vector Reading 8) 4) (m : Vector Half 4) (i : Slot) (f : Bool) : (s.withFilter h m i f).target = s.target := rfl
@[simp] theorem State.withFilter_counter (h : Vector (Vector Reading 8) 4) (m : Vector Half 4) (i : Slot) (f : Bool) : (s.withFilter h m i f).counter = s.counter := rfl
@[simp] theorem State.withFilter_buzzer (h : Vector (Vector Reading 8) 4) (m : Vector Half 4) (i : Slot) (f : Bool) : (s.withFilter h m i f).buzzer = s.buzzer := rfl
@[simp] theorem State.withFilter_motor (h : Vector (Vector Reading 8) 4) (m : Vector Half 4) (i : Slot) (f : Bool) : (s.withFilter h m i f).motor = s.motor := rfl
@[simp] theorem State.withFilter_frame (h : Vector (Vector Reading 8) 4) (m : Vector Half 4) (i : Slot) (f : Bool) : (s.withFilter h m i f).frame = s.frame := rfl
@[simp] theorem State.withFilter_seq (h : Vector (Vector Reading 8) 4) (m : Vector Half 4) (i : Slot) (f : Bool) : (s.withFilter h m i f).seq = s.seq := rfl
@[simp] theorem State.withFilter_cursor (h : Vector (Vector Reading 8) 4) (m : Vector Half 4) (i : Slot) (f : Bool) : (s.withFilter h m i f).cursor = s.cursor := rfl
@[simp] theorem State.withFilter_pendAcq (h : Vector (Vector Reading 8) 4) (m : Vector Half 4) (i : Slot) (f : Bool) : (s.withFilter h m i f).pendAcq = s.pendAcq := rfl
@[simp] theorem State.withFilter_acqCmd (h : Vector (Vector Reading 8) 4) (m : Vector Half 4) (i : Slot) (f : Bool) : (s.withFilter h m i f).acqCmd = s.acqCmd := rfl
@[simp] theorem State.withFilter_acqData (h : Vector (Vector Reading 8) 4) (m : Vector Half 4) (i : Slot) (f : Bool) : (s.withFilter h m i f).acqData = s.acqData := rfl
@[simp] theorem State.withFilter_pendX (h : Vector (Vector Reading 8) 4) (m : Vector Half 4) (i : Slot) (f : Bool) : (s.withFilter h m i f).pendX = s.pendX := rfl
@[simp] theorem State.withFilter_xCmd (h : Vector (Vector Reading 8) 4) (m : Vector Half 4) (i : Slot) (f : Bool) : (s.withFilter h m i f).xCmd = s.xCmd := rfl
@[simp] theorem State.withFilter_pendTick (h : Vector (Vector Reading 8) 4) (m : Vector Half 4) (i : Slot) (f : Bool) : (s.withFilter h m i f).pendTick = s.pendTick := rfl
@[simp] theorem State.withFilter_tickCmd (h : Vector (Vector Reading 8) 4) (m : Vector Half 4) (i : Slot) (f : Bool) : (s.withFilter h m i f).tickCmd = s.tickCmd := rfl
@[simp] theorem State.withFilter_pendQ (h : Vector (Vector Reading 8) 4) (m : Vector Half 4) (i : Slot) (f : Bool) : (s.withFilter h m i f).pendQ = s.pendQ := rfl
@[simp] theorem State.withFilter_qCmd (h : Vector (Vector Reading 8) 4) (m : Vector Half 4) (i : Slot) (f : Bool) : (s.withFilter h m i f).qCmd = s.qCmd := rfl
@[simp] theorem State.withFilter_flt (h : Vector (Vector Reading 8) 4) (m : Vector Half 4) (i : Slot) (f : Bool) : (s.withFilter h m i f).flt = s.flt := rfl
@[simp] theorem State.withFilter_xData (h : Vector (Vector Reading 8) 4) (m : Vector Half 4) (i : Slot) (f : Bool) : (s.withFilter h m i f).xData = s.xData := rfl
@[simp] theorem State.withFilter_xValid (h : Vector (Vector Reading 8) 4) (m : Vector Half 4) (i : Slot) (f : Bool) : (s.withFilter h m i f).xValid = s.xValid := rfl
@[simp] theorem State.withFilter_qData (h : Vector (Vector Reading 8) 4) (m : Vector Half 4) (i : Slot) (f : Bool) : (s.withFilter h m i f).qData = s.qData := rfl
@[simp] theorem State.withFilter_qValid (h : Vector (Vector Reading 8) 4) (m : Vector Half 4) (i : Slot) (f : Bool) : (s.withFilter h m i f).qValid = s.qValid := rfl
@[simp] theorem State.withFilter_env (h : Vector (Vector Reading 8) 4) (m : Vector Half 4) (i : Slot) (f : Bool) : (s.withFilter h m i f).env = s.env := rfl
@[simp] theorem State.withFilter_draws (h : Vector (Vector Reading 8) 4) (m : Vector Half 4) (i : Slot) (f : Bool) : (s.withFilter h m i f).draws = s.draws := rfl

@[simp] theorem State.withRisk_hist (a b : RiskLevel) : (s.withRisk a b).hist = s.hist := rfl
@[simp] theorem State.withRisk_sum (a b : RiskLevel) : (s.withRisk a b).sum = s.sum := rfl
@[simp] theorem State.withRisk_idx (a b : RiskLevel) : (s.withRisk a b).idx = s.idx := rfl
@[simp] theorem State.withRisk_filled (a b : RiskLevel) : (s.withRisk a b).filled = s.filled := rfl
@[simp] theorem State.withRisk_tempState (a b : RiskLevel) : (s.withRisk a b).tempState = a := rfl
@[simp] theorem State.withRisk_gasState (a b : RiskLevel) : (s.withRisk a b).gasState = b := rfl
@[simp] theorem State.withRisk_target (a b : RiskLevel) : (s.withRisk a b).target = s.target := rfl
@[simp] theorem State.withRisk_counter (a b : RiskLevel) : (s.withRisk a b).counter = s.counter := rfl
@[simp] theorem State.withRisk_buzzer (a b : RiskLevel) : (s.withRisk a b).buzzer = s.buzzer := rfl
@[simp] theorem State.withRisk_motor (a b : RiskLevel) : (s.withRisk a b).motor = s.motor := rfl
@[simp] theorem State.withRisk_frame (a b : RiskLevel) : (s.withRisk a b).frame = s.frame := rfl
@[simp] theorem State.withRisk_seq (a b : RiskLevel) : (s.withRisk a b).seq = s.seq := rfl
@[simp] theorem State.withRisk_cursor (a b : RiskLevel) : (s.withRisk a b).cursor = s.cursor := rfl
@[simp] theorem State.withRisk_pendAcq (a b : RiskLevel) : (s.withRisk a b).pendAcq = s.pendAcq := rfl
@[simp] theorem State.withRisk_acqCmd (a b : RiskLevel) : (s.withRisk a b).acqCmd = s.acqCmd := rfl
@[simp] theorem State.withRisk_acqData (a b : RiskLevel) : (s.withRisk a b).acqData = s.acqData := rfl
@[simp] theorem State.withRisk_pendX (a b : RiskLevel) : (s.withRisk a b).pendX = s.pendX := rfl
@[simp] theorem State.withRisk_xCmd (a b : RiskLevel) : (s.withRisk a b).xCmd = s.xCmd := rfl
@[simp] theorem State.withRisk_pendTick (a b : RiskLevel) : (s.withRisk a b).pendTick = s.pendTick := rfl
@[simp] theorem State.withRisk_tickCmd (a b : RiskLevel) : (s.withRisk a b).tickCmd = s.tickCmd := rfl
@[simp] theorem State.withRisk_pendQ (a b : RiskLevel) : (s.withRisk a b).pendQ = s.pendQ := rfl
@[simp] theorem State.withRisk_qCmd (a b : RiskLevel) : (s.withRisk a b).qCmd = s.qCmd := rfl
@[simp] theorem State.withRisk_flt (a b : RiskLevel) : (s.withRisk a b).flt = s.flt := rfl
@[simp] theorem State.withRisk_xData (a b : RiskLevel) : (s.withRisk a b).xData = s.xData := rfl
@[simp] theorem State.withRisk_xValid (a b : RiskLevel) : (s.withRisk a b).xValid = s.xValid := rfl
@[simp] theorem State.withRisk_qData (a b : RiskLevel) : (s.withRisk a b).qData = s.qData := rfl
@[simp] theorem State.withRisk_qValid (a b : RiskLevel) : (s.withRisk a b).qValid = s.qValid := rfl
@[simp] theorem State.withRisk_env (a b : RiskLevel) : (s.withRisk a b).env = s.env := rfl
@[simp] theorem State.withRisk_draws (a b : RiskLevel) : (s.withRisk a b).draws = s.draws := rfl

@[simp] theorem State.withTarget_hist (l : RiskLevel) (n : Half) : (s.withTarget l n).hist = s.hist := rfl
@[simp] theorem State.withTarget_sum (l : RiskLevel) (n : Half) : (s.withTarget l n).sum = s.sum := rfl
@[simp] theorem State.withTarget_idx (l : RiskLevel) (n : Half) : (s.withTarget l n).idx = s.idx := rfl
@[simp] theorem State.withTarget_filled (l : RiskLevel) (n : Half) : (s.withTarget l n).filled = s.filled := rfl
@[simp] theorem State.withTarget_tempState (l : RiskLevel) (n : Half) : (s.withTarget l n).tempState = s.tempState := rfl
@[simp] theorem State.withTarget_gasState (l : RiskLevel) (n : Half) : (s.withTarget l n).gasState = s.gasState := rfl
@[simp] theorem State.withTarget_target (l : RiskLevel) (n : Half) : (s.withTarget l n).target = l := rfl
@[simp] theorem State.withTarget_counter (l : RiskLevel) (n : Half) : (s.withTarget l n).counter = n := rfl
@[simp] theorem State.withTarget_buzzer (l : RiskLevel) (n : Half) : (s.withTarget l n).buzzer = s.buzzer := rfl
@[simp] theorem State.withTarget_motor (l : RiskLevel) (n : Half) : (s.withTarget l n).motor = s.motor := rfl
@[simp] theorem State.withTarget_frame (l : RiskLevel) (n : Half) : (s.withTarget l n).frame = s.frame := rfl
@[simp] theorem State.withTarget_seq (l : RiskLevel) (n : Half) : (s.withTarget l n).seq = s.seq := rfl
@[simp] theorem State.withTarget_cursor (l : RiskLevel) (n : Half) : (s.withTarget l n).cursor = s.cursor := rfl
@[simp] theorem State.withTarget_pendAcq (l : RiskLevel) (n : Half) : (s.withTarget l n).pendAcq = s.pendAcq := rfl
@[simp] theorem State.withTarget_acqCmd (l : RiskLevel) (n : Half) : (s.withTarget l n).acqCmd = s.acqCmd := rfl
@[simp] theorem State.withTarget_acqData (l : RiskLevel) (n : Half) : (s.withTarget l n).acqData = s.acqData := rfl
@[simp] theorem State.withTarget_pendX (l : RiskLevel) (n : Half) : (s.withTarget l n).pendX = s.pendX := rfl
@[simp] theorem State.withTarget_xCmd (l : RiskLevel) (n : Half) : (s.withTarget l n).xCmd = s.xCmd := rfl
@[simp] theorem State.withTarget_pendTick (l : RiskLevel) (n : Half) : (s.withTarget l n).pendTick = s.pendTick := rfl
@[simp] theorem State.withTarget_tickCmd (l : RiskLevel) (n : Half) : (s.withTarget l n).tickCmd = s.tickCmd := rfl
@[simp] theorem State.withTarget_pendQ (l : RiskLevel) (n : Half) : (s.withTarget l n).pendQ = s.pendQ := rfl
@[simp] theorem State.withTarget_qCmd (l : RiskLevel) (n : Half) : (s.withTarget l n).qCmd = s.qCmd := rfl
@[simp] theorem State.withTarget_flt (l : RiskLevel) (n : Half) : (s.withTarget l n).flt = s.flt := rfl
@[simp] theorem State.withTarget_xData (l : RiskLevel) (n : Half) : (s.withTarget l n).xData = s.xData := rfl
@[simp] theorem State.withTarget_xValid (l : RiskLevel) (n : Half) : (s.withTarget l n).xValid = s.xValid := rfl
@[simp] theorem State.withTarget_qData (l : RiskLevel) (n : Half) : (s.withTarget l n).qData = s.qData := rfl
@[simp] theorem State.withTarget_qValid (l : RiskLevel) (n : Half) : (s.withTarget l n).qValid = s.qValid := rfl
@[simp] theorem State.withTarget_env (l : RiskLevel) (n : Half) : (s.withTarget l n).env = s.env := rfl
@[simp] theorem State.withTarget_draws (l : RiskLevel) (n : Half) : (s.withTarget l n).draws = s.draws := rfl

@[simp] theorem State.withOutputs_hist (n : Half) (a b : Bool) : (s.withOutputs n a b).hist = s.hist := rfl
@[simp] theorem State.withOutputs_sum (n : Half) (a b : Bool) : (s.withOutputs n a b).sum = s.sum := rfl
@[simp] theorem State.withOutputs_idx (n : Half) (a b : Bool) : (s.withOutputs n a b).idx = s.idx := rfl
@[simp] theorem State.withOutputs_filled (n : Half) (a b : Bool) : (s.withOutputs n a b).filled = s.filled := rfl
@[simp] theorem State.withOutputs_tempState (n : Half) (a b : Bool) : (s.withOutputs n a b).tempState = s.tempState := rfl
@[simp] theorem State.withOutputs_gasState (n : Half) (a b : Bool) : (s.withOutputs n a b).gasState = s.gasState := rfl
@[simp] theorem State.withOutputs_target (n : Half) (a b : Bool) : (s.withOutputs n a b).target = s.target := rfl
@[simp] theorem State.withOutputs_counter (n : Half) (a b : Bool) : (s.withOutputs n a b).counter = n := rfl
@[simp] theorem State.withOutputs_buzzer (n : Half) (a b : Bool) : (s.withOutputs n a b).buzzer = a := rfl
@[simp] theorem State.withOutputs_motor (n : Half) (a b : Bool) : (s.withOutputs n a b).motor = b := rfl
@[simp] theorem State.withOutputs_frame (n : Half) (a b : Bool) : (s.withOutputs n a b).frame = s.frame := rfl
@[simp] theorem State.withOutputs_seq (n : Half) (a b : Bool) : (s.withOutputs n a b).seq = s.seq := rfl
@[simp] theorem State.withOutputs_cursor (n : Half) (a b : Bool) : (s.withOutputs n a b).cursor = s.cursor := rfl
@[simp] theorem State.withOutputs_pendAcq (n : Half) (a b : Bool) : (s.withOutputs n a b).pendAcq = s.pendAcq := rfl
@[simp] theorem State.withOutputs_acqCmd (n : Half) (a b : Bool) : (s.withOutputs n a b).acqCmd = s.acqCmd := rfl
@[simp] theorem State.withOutputs_acqData (n : Half) (a b : Bool) : (s.withOutputs n a b).acqData = s.acqData := rfl
@[simp] theorem State.withOutputs_pendX (n : Half) (a b : Bool) : (s.withOutputs n a b).pendX = s.pendX := rfl
@[simp] theorem State.withOutputs_xCmd (n : Half) (a b : Bool) : (s.withOutputs n a b).xCmd = s.xCmd := rfl
@[simp] theorem State.withOutputs_pendTick (n : Half) (a b : Bool) : (s.withOutputs n a b).pendTick = s.pendTick := rfl
@[simp] theorem State.withOutputs_tickCmd (n : Half) (a b : Bool) : (s.withOutputs n a b).tickCmd = s.tickCmd := rfl
@[simp] theorem State.withOutputs_pendQ (n : Half) (a b : Bool) : (s.withOutputs n a b).pendQ = s.pendQ := rfl
@[simp] theorem State.withOutputs_qCmd (n : Half) (a b : Bool) : (s.withOutputs n a b).qCmd = s.qCmd := rfl
@[simp] theorem State.withOutputs_flt (n : Half) (a b : Bool) : (s.withOutputs n a b).flt = s.flt := rfl
@[simp] theorem State.withOutputs_xData (n : Half) (a b : Bool) : (s.withOutputs n a b).xData = s.xData := rfl
@[simp] theorem State.withOutputs_xValid (n : Half) (a b : Bool) : (s.withOutputs n a b).xValid = s.xValid := rfl
@[simp] theorem State.withOutputs_qData (n : Half) (a b : Bool) : (s.withOutputs n a b).qData = s.qData := rfl
@[simp] theorem State.withOutputs_qValid (n : Half) (a b : Bool) : (s.withOutputs n a b).qValid = s.qValid := rfl
@[simp] theorem State.withOutputs_env (n : Half) (a b : Bool) : (s.withOutputs n a b).env = s.env := rfl
@[simp] theorem State.withOutputs_draws (n : Half) (a b : Bool) : (s.withOutputs n a b).draws = s.draws := rfl

@[simp] theorem State.withFrame_hist (m : Memory) : (s.withFrame m).hist = s.hist := rfl
@[simp] theorem State.withFrame_sum (m : Memory) : (s.withFrame m).sum = s.sum := rfl
@[simp] theorem State.withFrame_idx (m : Memory) : (s.withFrame m).idx = s.idx := rfl
@[simp] theorem State.withFrame_filled (m : Memory) : (s.withFrame m).filled = s.filled := rfl
@[simp] theorem State.withFrame_tempState (m : Memory) : (s.withFrame m).tempState = s.tempState := rfl
@[simp] theorem State.withFrame_gasState (m : Memory) : (s.withFrame m).gasState = s.gasState := rfl
@[simp] theorem State.withFrame_target (m : Memory) : (s.withFrame m).target = s.target := rfl
@[simp] theorem State.withFrame_counter (m : Memory) : (s.withFrame m).counter = s.counter := rfl
@[simp] theorem State.withFrame_buzzer (m : Memory) : (s.withFrame m).buzzer = s.buzzer := rfl
@[simp] theorem State.withFrame_motor (m : Memory) : (s.withFrame m).motor = s.motor := rfl
@[simp] theorem State.withFrame_frame (m : Memory) : (s.withFrame m).frame = m := rfl
@[simp] theorem State.withFrame_seq (m : Memory) : (s.withFrame m).seq = s.seq := rfl
@[simp] theorem State.withFrame_cursor (m : Memory) : (s.withFrame m).cursor = s.cursor := rfl
@[simp] theorem State.withFrame_pendAcq (m : Memory) : (s.withFrame m).pendAcq = s.pendAcq := rfl
@[simp] theorem State.withFrame_acqCmd (m : Memory) : (s.withFrame m).acqCmd = s.acqCmd := rfl
@[simp] theorem State.withFrame_acqData (m : Memory) : (s.withFrame m).acqData = s.acqData := rfl
@[simp] theorem State.withFrame_pendX (m : Memory) : (s.withFrame m).pendX = s.pendX := rfl
@[simp] theorem State.withFrame_xCmd (m : Memory) : (s.withFrame m).xCmd = s.xCmd := rfl
@[simp] theorem State.withFrame_pendTick (m : Memory) : (s.withFrame m).pendTick = s.pendTick := rfl
@[simp] theorem State.withFrame_tickCmd (m : Memory) : (s.withFrame m).tickCmd = s.tickCmd := rfl
@[simp] theorem State.withFrame_pendQ (m : Memory) : (s.withFrame m).pendQ = s.pendQ := rfl
@[simp] theorem State.withFrame_qCmd (m : Memory) : (s.withFrame m).qCmd = s.qCmd := rfl
@[simp] theorem State.withFrame_flt (m : Memory) : (s.withFrame m).flt = s.flt := rfl
@[simp] theorem State.withFrame_xData (m : Memory) : (s.withFrame m).xData = s.xData := rfl
@[simp] theorem State.withFrame_xValid (m : Memory) : (s.withFrame m).xValid = s.xValid := rfl
@[simp] theorem State.withFrame_qData (m : Memory) : (s.withFrame m).qData = s.qData := rfl
@[simp] theorem State.withFrame_qValid (m : Memory) : (s.withFrame m).qValid = s.qValid := rfl
@[simp] theorem State.withFrame_env (m : Memory) : (s.withFrame m).env = s.env := rfl
@[simp] theorem State.withFrame_draws (m : Memory) : (s.withFrame m).draws = s.draws := rfl

@[simp] theorem State.withSeq_hist (b : Byte) : (s.withSeq b).hist = s.hist := rfl
@[simp] theorem State.withSeq_sum (b : Byte) : (s.withSeq b).sum = s.sum := rfl
@[simp] theorem State.withSeq_idx (b : Byte) : (s.withSeq b).idx = s.idx := rfl
@[simp] theorem State.withSeq_filled (b : Byte) : (s.withSeq b).filled = s.filled := rfl
@[simp] theorem State.withSeq_tempState (b : Byte) : (s.withSeq b).tempState = s.tempState := rfl
@[simp] theorem State.withSeq_gasState (b : Byte) : (s.withSeq b).gasState = s.gasState := rfl
@[simp] theorem State.withSeq_target (b : Byte) : (s.withSeq b).target = s.target := rfl
@[simp] theorem State.withSeq_counter (b : Byte) : (s.withSeq b).counter = s.counter := rfl
@[simp] theorem State.withSeq_buzzer (b : Byte) : (s.withSeq b).buzzer = s.buzzer := rfl
@[simp] theorem State.withSeq_motor (b : Byte) : (s.withSeq b).motor = s.motor := rfl
@[simp] theorem State.withSeq_frame (b : Byte) : (s.withSeq b).frame = s.frame := rfl
@[simp] theorem State.withSeq_seq (b : Byte) : (s.withSeq b).seq = b := rfl
@[simp] theorem State.withSeq_cursor (b : Byte) : (s.withSeq b).cursor = s.cursor := rfl
@[simp] theorem State.withSeq_pendAcq (b : Byte) : (s.withSeq b).pendAcq = s.pendAcq := rfl
@[simp] theorem State.withSeq_acqCmd (b : Byte) : (s.withSeq b).acqCmd = s.acqCmd := rfl
@[simp] theorem State.withSeq_acqData (b : Byte) : (s.withSeq b).acqData = s.acqData := rfl
@[simp] theorem State.withSeq_pendX (b : Byte) : (s.withSeq b).pendX = s.pendX := rfl
@[simp] theorem State.withSeq_xCmd (b : Byte) : (s.withSeq b).xCmd = s.xCmd := rfl
@[simp] theorem State.withSeq_pendTick (b : Byte) : (s.withSeq b).pendTick = s.pendTick := rfl
@[simp] theorem State.withSeq_tickCmd (b : Byte) : (s.withSeq b).tickCmd = s.tickCmd := rfl
@[simp] theorem State.withSeq_pendQ (b : Byte) : (s.withSeq b).pendQ = s.pendQ := rfl
@[simp] theorem State.withSeq_qCmd (b : Byte) : (s.withSeq b).qCmd = s.qCmd := rfl
@[simp] theorem State.withSeq_flt (b : Byte) : (s.withSeq b).flt = s.flt := rfl
@[simp] theorem State.withSeq_xData (b : Byte) : (s.withSeq b).xData = s.xData := rfl
@[simp] theorem State.withSeq_xValid (b : Byte) : (s.withSeq b).xValid = s.xValid := rfl
@[simp] theorem State.withSeq_qData (b : Byte) : (s.withSeq b).qData = s.qData := rfl
@[simp] theorem State.withSeq_qValid (b : Byte) : (s.withSeq b).qValid = s.qValid := rfl
@[simp] theorem State.withSeq_env (b : Byte) : (s.withSeq b).env = s.env := rfl
@[simp] theorem State.withSeq_draws (b : Byte) : (s.withSeq b).draws = s.draws := rfl

@[simp] theorem State.withCursor_hist (c : Offset) : (s.withCursor c).hist = s.hist := rfl
@[simp] theorem State.withCursor_sum (c : Offset) : (s.withCursor c).sum = s.sum := rfl
@[simp] theorem State.withCursor_idx (c : Offset) : (s.withCursor c).idx = s.idx := rfl
@[simp] theorem State.withCursor_filled (c : Offset) : (s.withCursor c).filled = s.filled := rfl
@[simp] theorem State.withCursor_tempState (c : Offset) : (s.withCursor c).tempState = s.tempState := rfl
@[simp] theorem State.withCursor_gasState (c : Offset) : (s.withCursor c).gasState = s.gasState := rfl
@[simp] theorem State.withCursor_target (c : Offset) : (s.withCursor c).target = s.target := rfl
@[simp] theorem State.withCursor_counter (c : Offset) : (s.withCursor c).counter = s.counter := rfl
@[simp] theorem State.withCursor_buzzer (c : Offset) : (s.withCursor c).buzzer = s.buzzer := rfl
@[simp] theorem State.withCursor_motor (c : Offset) : (s.withCursor c).motor = s.motor := rfl
@[simp] theorem State.withCursor_frame (c : Offset) : (s.withCursor c).frame = s.frame := rfl
@[simp] theorem State.withCursor_seq (c : Offset) : (s.withCursor c).seq = s.seq := rfl
@[simp] theorem State.withCursor_cursor (c : Offset) : (s.withCursor c).cursor = c := rfl
@[simp] theorem State.withCursor_pendAcq (c : Offset) : (s.withCursor c).pendAcq = s.pendAcq := rfl
@[simp] theorem State.withCursor_acqCmd (c : Offset) : (s.withCursor c).acqCmd = s.acqCmd := rfl
@[simp] theorem State.withCursor_acqData (c : Offset) : (s.withCursor c).acqData = s.acqData := rfl
@[simp] theorem State.withCursor_pendX (c : Offset) : (s.withCursor c).pendX = s.pendX := rfl
@[simp] theorem State.withCursor_xCmd (c : Offset) : (s.withCursor c).xCmd = s.xCmd := rfl
@[simp] theorem State.withCursor_pendTick (c : Offset) : (s.withCursor c).pendTick = s.pendTick := rfl
@[simp] theorem State.withCursor_tickCmd (c : Offset) : (s.withCursor c).tickCmd = s.tickCmd := rfl
@[simp] theorem State.withCursor_pendQ (c : Offset) : (s.withCursor c).pendQ = s.pendQ := rfl
@[simp] theorem State.withCursor_qCmd (c : Offset) : (s.withCursor c).qCmd = s.qCmd := rfl
@[simp] theorem State.withCursor_flt (c : Offset) : (s.withCursor c).flt = s.flt := rfl
@[simp] theorem State.withCursor_xData (c : Offset) : (s.withCursor c).xData = s.xData := rfl
@[simp] theorem State.withCursor_xValid (c : Offset) : (s.withCursor c).xValid = s.xValid := rfl
@[simp] theorem State.withCursor_qData (c : Offset) : (s.withCursor c).qData = s.qData := rfl
@[simp] theorem State.withCursor_qValid (c : Offset) : (s.withCursor c).qValid = s.qValid := rfl
@[simp] theorem State.withCursor_env (c : Offset) : (s.withCursor c).env = s.env := rfl
@[simp] theorem State.withCursor_draws (c : Offset) : (s.withCursor c).draws = s.draws := rfl

@[simp] theorem State.withFlt_hist (f : BitVec 3) : (s.withFlt f).hist = s.hist := rfl
@[simp] theorem State.withFlt_sum (f : BitVec 3) : (s.withFlt f).sum = s.sum := rfl
@[simp] theorem State.withFlt_idx (f : BitVec 3) : (s.withFlt f).idx = s.idx := rfl
@[simp] theorem State.withFlt_filled (f : BitVec 3) : (s.withFlt f).filled = s.filled := rfl
@[simp] theorem State.withFlt_tempState (f : BitVec 3) : (s.withFlt f).tempState = s.tempState := rfl
@[simp] theorem State.withFlt_gasState (f : BitVec 3) : (s.withFlt f).gasState = s.gasState := rfl
@[simp] theorem State.withFlt_target (f : BitVec 3) : (s.withFlt f).target = s.target := rfl
@[simp] theorem State.withFlt_counter (f : BitVec 3) : (s.withFlt f).counter = s.counter := rfl
@[simp] theorem State.withFlt_buzzer (f : BitVec 3) : (s.withFlt f).buzzer = s.buzzer := rfl
@[simp] theorem State.withFlt_motor (f : BitVec 3) : (s.withFlt f).motor = s.motor := rfl
@[simp] theorem State.withFlt_frame (f : BitVec 3) : (s.withFlt f).frame = s.frame := rfl
@[simp] theorem State.withFlt_seq (f : BitVec 3) : (s.withFlt f).seq = s.seq := rfl
@[simp] theorem State.withFlt_cursor (f : BitVec 3) : (s.withFlt f).cursor = s.cursor := rfl
@[simp] theorem State.withFlt_pendAcq (f : BitVec 3) : (s.withFlt f).pendAcq = s.pendAcq := rfl
@[simp] theorem State.withFlt_acqCmd (f : BitVec 3) : (s.withFlt f).acqCmd = s.acqCmd := rfl
@[simp] theorem State.withFlt_acqData (f : BitVec 3) : (s.withFlt f).acqData = s.acqData := rfl
@[simp] theorem State.withFlt_pendX (f : BitVec 3) : (s.withFlt f).pendX = s.pendX := rfl
@[simp] theorem State.withFlt_xCmd (f : BitVec 3) : (s.withFlt f).xCmd = s.xCmd := rfl
@[simp] theorem State.withFlt_pendTick (f : BitVec 3) : (s.withFlt f).pendTick = s.pendTick := rfl
@[simp] theorem State.withFlt_tickCmd (f : BitVec 3) : (s.withFlt f).tickCmd = s.tickCmd := rfl
@[simp] theorem State.withFlt_pendQ (f : BitVec 3) : (s.withFlt f).pendQ = s.pendQ := rfl
@[simp] theorem State.withFlt_qCmd (f : BitVec 3) : (s.withFlt f).qCmd = s.qCmd := rfl
@[simp] theorem State.withFlt_flt (f : BitVec 3) : (s.withFlt f).flt = f := rfl
@[simp] theorem State.withFlt_xData (f : BitVec 3) : (s.withFlt f).xData = s.xData := rfl
@[simp] theorem State.withFlt_xValid (f : BitVec 3) : (s.withFlt f).xValid = s.xValid := rfl
@[simp] theorem State.withFlt_qData (f : BitVec 3) : (s.withFlt f).qData = s.qData := rfl
@[simp] theorem State.withFlt_qValid (f : BitVec 3) : (s.withFlt f).qValid = s.qValid := rfl
@[simp] theorem State.withFlt_env (f : BitVec 3) : (s.withFlt f).env = s.env := rfl
@[simp] theorem State.withFlt_draws (f : BitVec 3) : (s.withFlt f).draws = s.draws := rfl

@[simp] theorem State.withAcqLatch_hist (p : Bool) (c : Byte) (r : Readings) : (s.withAcqLatch p c r).hist = s.hist := rfl
@[simp] theorem State.withAcqLatch_sum (p : Bool) (c : Byte) (r : Readings) : (s.withAcqLatch p c r).sum = s.sum := rfl
@[simp] theorem State.withAcqLatch_idx (p : Bool) (c : Byte) (r : Readings) : (s.withAcqLatch p c r).idx = s.idx := rfl
@[simp] theorem State.withAcqLatch_filled (p : Bool) (c : Byte) (r : Readings) : (s.withAcqLatch p c r).filled = s.filled := rfl
@[simp] theorem State.withAcqLatch_tempState (p : Bool) (c : Byte) (r : Readings) : (s.withAcqLatch p c r).tempState = s.tempState := rfl
@[simp] theorem State.withAcqLatch_gasState (p : Bool) (c : Byte) (r : Readings) : (s.withAcqLatch p c r).gasState = s.gasState := rfl
@[simp] theorem State.withAcqLatch_target (p : Bool) (c : Byte) (r : Readings) : (s.withAcqLatch p c r).target = s.target := rfl
@[simp] theorem State.withAcqLatch_counter (p : Bool) (c : Byte) (r : Readings) : (s.withAcqLatch p c r).counter = s.counter := rfl
@[simp] theorem State.withAcqLatch_buzzer (p : Bool) (c : Byte) (r : Readings) : (s.withAcqLatch p c r).buzzer = s.buzzer := rfl
@[simp] theorem State.withAcqLatch_motor (p : Bool) (c : Byte) (r : Readings) : (s.withAcqLatch p c r).motor = s.motor := rfl
@[simp] theorem State.withAcqLatch_frame (p : Bool) (c : Byte) (r : Readings) : (s.withAcqLatch p c r).frame = s.frame := rfl
@[simp] theorem State.withAcqLatch_seq (p : Bool) (c : Byte) (r : Readings) : (s.withAcqLatch p c r).seq = s.seq := rfl
@[simp] theorem State.withAcqLatch_cursor (p : Bool) (c : Byte) (r : Readings) : (s.withAcqLatch p c r).cursor = s.cursor := rfl
@[simp] theorem State.withAcqLatch_pendAcq (p : Bool) (c : Byte) (r : Readings) : (s.withAcqLatch p c r).pendAcq = p := rfl
@[simp] theorem State.withAcqLatch_acqCmd (p : Bool) (c : Byte) (r : Readings) : (s.withAcqLatch p c r).acqCmd = c := rfl
@[simp] theorem State.withAcqLatch_acqData (p : Bool) (c : Byte) (r : Readings) : (s.withAcqLatch p c r).acqData = r := rfl
@[simp] theorem State.withAcqLatch_pendX (p : Bool) (c : Byte) (r : Readings) : (s.withAcqLatch p c r).pendX = s.pendX := rfl
@[simp] theorem State.withAcqLatch_xCmd (p : Bool) (c : Byte) (r : Readings) : (s.withAcqLatch p c r).xCmd = s.xCmd := rfl
@[simp] theorem State.withAcqLatch_pendTick (p : Bool) (c : Byte) (r : Readings) : (s.withAcqLatch p c r).pendTick = s.pendTick := rfl
@[simp] theorem State.withAcqLatch_tickCmd (p : Bool) (c : Byte) (r : Readings) : (s.withAcqLatch p c r).tickCmd = s.tickCmd := rfl
@[simp] theorem State.withAcqLatch_pendQ (p : Bool) (c : Byte) (r : Readings) : (s.withAcqLatch p c r).pendQ = s.pendQ := rfl
@[simp] theorem State.withAcqLatch_qCmd (p : Bool) (c : Byte) (r : Readings) : (s.withAcqLatch p c r).qCmd = s.qCmd := rfl
@[simp] theorem State.withAcqLatch_flt (p : Bool) (c : Byte) (r : Readings) : (s.withAcqLatch p c r).flt = s.flt := rfl
@[simp] theorem State.withAcqLatch_xData (p : Bool) (c : Byte) (r : Readings) : (s.withAcqLatch p c r).xData = s.xData := rfl
@[simp] theorem State.withAcqLatch_xValid (p : Bool) (c : Byte) (r : Readings) : (s.withAcqLatch p c r).xValid = s.xValid := rfl
@[simp] theorem State.withAcqLatch_qData (p : Bool) (c : Byte) (r : Readings) : (s.withAcqLatch p c r).qData = s.qData := rfl
@[simp] theorem State.withAcqLatch_qValid (p : Bool) (c : Byte) (r : Readings) : (s.withAcqLatch p c r).qValid = s.qValid := rfl
@[simp] theorem State.withAcqLatch_env (p : Bool) (c : Byte) (r : Readings) : (s.withAcqLatch p c r).env = s.env := rfl
@[simp] theorem State.withAcqLatch_draws (p : Bool) (c : Byte) (r : Readings) : (s.withAcqLatch p c r).draws = s.draws := rfl

@[simp] theorem State.withXLatch_hist (p : Bool) (c : Byte) : (s.withXLatch p c).hist = s.hist := rfl
@[simp] theorem State.withXLatch_sum (p : Bool) (c : Byte) : (s.withXLatch p c).sum = s.sum := rfl
@[simp] theorem State.withXLatch_idx (p : Bool) (c : Byte) : (s.withXLatch p c).idx = s.idx := rfl
@[simp] theorem State.withXLatch_filled (p : Bool) (c : Byte) : (s.withXLatch p c).filled = s.filled := rfl
@[simp] theorem State.withXLatch_tempState (p : Bool) (c : Byte) : (s.withXLatch p c).tempState = s.tempState := rfl
@[simp] theorem State.withXLatch_gasState (p : Bool) (c : Byte) : (s.withXLatch p c).gasState = s.gasState := rfl
@[simp] theorem State.withXLatch_target (p : Bool) (c : Byte) : (s.withXLatch p c).target = s.target := rfl
@[simp] theorem State.withXLatch_counter (p : Bool) (c : Byte) : (s.withXLatch p c).counter = s.counter := rfl
@[simp] theorem State.withXLatch_buzzer (p : Bool) (c : Byte) : (s.withXLatch p c).buzzer = s.buzzer := rfl
@[simp] theorem State.withXLatch_motor (p : Bool) (c : Byte) : (s.withXLatch p c).motor = s.motor := rfl
@[simp] theorem State.withXLatch_frame (p : Bool) (c : Byte) : (s.withXLatch p c).frame = s.frame := rfl
@[simp] theorem State.withXLatch_seq (p : Bool) (c : Byte) : (s.withXLatch p c).seq = s.seq := rfl
@[simp] theorem State.withXLatch_cursor (p : Bool) (c : Byte) : (s.withXLatch p c).cursor = s.cursor := rfl
@[simp] theorem State.withXLatch_pendAcq (p : Bool) (c : Byte) : (s.withXLatch p c).pendAcq = s.pendAcq := rfl
@[simp] theorem State.withXLatch_acqCmd (p : Bool) (c : Byte) : (s.withXLatch p c).acqCmd = s.acqCmd := rfl
@[simp] theorem State.withXLatch_acqData (p : Bool) (c : Byte) : (s.withXLatch p c).acqData = s.acqData := rfl
@[simp] theorem State.withXLatch_pendX (p : Bool) (c : Byte) : (s.withXLatch p c).pendX = p := rfl
@[simp] theorem State.withXLatch_xCmd (p : Bool) (c : Byte) : (s.withXLatch p c).xCmd = c := rfl
@[simp] theorem State.withXLatch_pendTick (p : Bool) (c : Byte) : (s.withXLatch p c).pendTick = s.pendTick := rfl
@[simp] theorem State.withXLatch_tickCmd (p : Bool) (c : Byte) : (s.withXLatch p c).tickCmd = s.tickCmd := rfl
@[simp] theorem State.withXLatch_pendQ (p : Bool) (c : Byte) : (s.withXLatch p c).pendQ = s.pendQ := rfl
@[simp] theorem State.withXLatch_qCmd (p : Bool) (c : Byte) : (s.withXLatch p c).qCmd = s.qCmd := rfl
@[simp] theorem State.withXLatch_flt (p : Bool) (c : Byte) : (s.withXLatch p c).flt = s.flt := rfl
@[simp] theorem State.withXLatch_xData (p : Bool) (c : Byte) : (s.withXLatch p c).xData = s.xData := rfl
@[simp] theorem State.withXLatch_xValid (p : Bool) (c : Byte) : (s.withXLatch p c).xValid = s.xValid := rfl
@[simp] theorem State.withXLatch_qData (p : Bool) (c : Byte) : (s.withXLatch p c).qData = s.qData := rfl
@[simp] theorem State.withXLatch_qValid (p : Bool) (c : Byte) : (s.withXLatch p c).qValid = s.qValid := rfl
@[simp] theorem State.withXLatch_env (p : Bool) (c : Byte) : (s.withXLatch p c).env = s.env := rfl
@[simp] theorem State.withXLatch_draws (p : Bool) (c : Byte) : (s.withXLatch p c).draws = s.draws := rfl

@[simp] theorem State.withTickLatch_hist (p : Bool) (c : Byte) : (s.withTickLatch p c).hist = s.hist := rfl
@[simp] theorem State.withTickLatch_sum (p : Bool) (c : Byte) : (s.withTickLatch p c).sum = s.sum := rfl
@[simp] theorem State.withTickLatch_idx (p : Bool) (c : Byte) : (s.withTickLatch p c).idx = s.idx := rfl
@[simp] theorem State.withTickLatch_filled (p : Bool) (c : Byte) : (s.withTickLatch p c).filled = s.filled := rfl
@[simp] theorem State.withTickLatch_tempState (p : Bool) (c : Byte) : (s.withTickLatch p c).tempState = s.tempState := rfl
@[simp] theorem State.withTickLatch_gasState (p : Bool) (c : Byte) : (s.withTickLatch p c).gasState = s.gasState := rfl
@[simp] theorem State.withTickLatch_target (p : Bool) (c : Byte) : (s.withTickLatch p c).target = s.target := rfl
@[simp] theorem State.withTickLatch_counter (p : Bool) (c : Byte) : (s.withTickLatch p c).counter = s.counter := rfl
@[simp] theorem State.withTickLatch_buzzer (p : Bool) (c : Byte) : (s.withTickLatch p c).buzzer = s.buzzer := rfl
@[simp] theorem State.withTickLatch_motor (p : Bool) (c : Byte) : (s.withTickLatch p c).motor = s.motor := rfl
@[simp] theorem State.withTickLatch_frame (p : Bool) (c : Byte) : (s.withTickLatch p c).frame = s.frame := rfl
@[simp] theorem State.withTickLatch_seq (p : Bool) (c : Byte) : (s.withTickLatch p c).seq = s.seq := rfl
@[simp] theorem State.withTickLatch_cursor (p : Bool) (c : Byte) : (s.withTickLatch p c).cursor = s.cursor := rfl
@[simp] theorem State.withTickLatch_pendAcq (p : Bool) (c : Byte) : (s.withTickLatch p c).pendAcq = s.pendAcq := rfl
@[simp] theorem State.withTickLatch_acqCmd (p : Bool) (c : Byte) : (s.withTickLatch p c).acqCmd = s.acqCmd := rfl
@[simp] theorem State.withTickLatch_acqData (p : Bool) (c : Byte) : (s.withTickLatch p c).acqData = s.acqData := rfl
@[simp] theorem State.withTickLatch_pendX (p : Bool) (c : Byte) : (s.withTickLatch p c).pendX = s.pendX := rfl
@[simp] theorem State.withTickLatch_xCmd (p : Bool) (c : Byte) : (s.withTickLatch p c).xCmd = s.xCmd := rfl
@[simp] theorem State.withTickLatch_pendTick (p : Bool) (c : Byte) : (s.withTickLatch p c).pendTick = p := rfl
@[simp] theorem State.withTickLatch_tickCmd (p : Bool) (c : Byte) : (s.withTickLatch p c).tickCmd = c := rfl
@[simp] theorem State.withTickLatch_pendQ (p : Bool) (c : Byte) : (s.withTickLatch p c).pendQ = s.pendQ := rfl
@[simp] theorem State.withTickLatch_qCmd (p : Bool) (c : Byte) : (s.withTickLatch p c).qCmd = s.qCmd := rfl
@[simp] theorem State.withTickLatch_flt (p : Bool) (c : Byte) : (s.withTickLatch p c).flt = s.flt := rfl
@[simp] theorem State.withTickLatch_xData (p : Bool) (c : Byte) : (s.withTickLatch p c).xData = s.xData := rfl
@[simp] theorem State.withTickLatch_xValid (p : Bool) (c : Byte) : (s.withTickLatch p c).xValid = s.xValid := rfl
@[simp] theorem State.withTickLatch_qData (p : Bool) (c : Byte) : (s.withTickLatch p c).qData = s.qData := rfl
@[simp] theorem State.withTickLatch_qValid (p : Bool) (c : Byte) : (s.withTickLatch p c).qValid = s.qValid := rfl
@[simp] theorem State.withTickLatch_env (p : Bool) (c : Byte) : (s.withTickLatch p c).env = s.env := rfl
@[simp] theorem State.withTickLatch_draws (p : Bool) (c : Byte) : (s.withTickLatch p c).draws = s.draws := rfl

@[simp] theorem State.withQLatch_hist (p : Bool) (c : Byte) : (s.withQLatch p c).hist = s.hist := rfl
@[simp] theorem State.withQLatch_sum (p : Bool) (c : Byte) : (s.withQLatch p c).sum = s.sum := rfl
@[simp] theorem State.withQLatch_idx (p : Bool) (c : Byte) : (s.withQLatch p c).idx = s.idx := rfl
@[simp] theorem State.withQLatch_filled (p : Bool) (c : Byte) : (s.withQLatch p c).filled = s.filled := rfl
@[simp] theorem State.withQLatch_tempState (p : Bool) (c : Byte) : (s.withQLatch p c).tempState = s.tempState := rfl
@[simp] theorem State.withQLatch_gasState (p : Bool) (c : Byte) : (s.withQLatch p c).gasState = s.gasState := rfl
@[simp] theorem State.withQLatch_target (p : Bool) (c : Byte) : (s.withQLatch p c).target = s.target := rfl
@[simp] theorem State.withQLatch_counter (p : Bool) (c : Byte) : (s.withQLatch p c).counter = s.counter := rfl
@[simp] theorem State.withQLatch_buzzer (p : Bool) (c : Byte) : (s.withQLatch p c).buzzer = s.buzzer := rfl
@[simp] theorem State.withQLatch_motor (p : Bool) (c : Byte) : (s.withQLatch p c).motor = s.motor := rfl
@[simp] theorem State.withQLatch_frame (p : Bool) (c : Byte) : (s.withQLatch p c).frame = s.frame := rfl
@[simp] theorem State.withQLatch_seq (p : Bool) (c : Byte) : (s.withQLatch p c).seq = s.seq := rfl
@[simp] theorem State.withQLatch_cursor (p : Bool) (c : Byte) : (s.withQLatch p c).cursor = s.cursor := rfl
@[simp] theorem State.withQLatch_pendAcq (p : Bool) (c : Byte) : (s.withQLatch p c).pendAcq = s.pendAcq := rfl
@[simp] theorem State.withQLatch_acqCmd (p : Bool) (c : Byte) : (s.withQLatch p c).acqCmd = s.acqCmd := rfl
@[simp] theorem State.withQLatch_acqData (p : Bool) (c : Byte) : (s.withQLatch p c).acqData = s.acqData := rfl
@[simp] theorem State.withQLatch_pendX (p : Bool) (c : Byte) : (s.withQLatch p c).pendX = s.pendX := rfl
@[simp] theorem State.withQLatch_xCmd (p : Bool) (c : Byte) : (s.withQLatch p c).xCmd = s.xCmd := rfl
@[simp] theorem State.withQLatch_pendTick (p : Bool) (c : Byte) : (s.withQLatch p c).pendTick = s.pendTick := rfl
@[simp] theorem State.withQLatch_tickCmd (p : Bool) (c : Byte) : (s.withQLatch p c).tickCmd = s.tickCmd := rfl
@[simp] theorem State.withQLatch_pendQ (p : Bool) (c : Byte) : (s.withQLatch p c).pendQ = p := rfl
@[simp] theorem State.withQLatch_qCmd (p : Bool) (c : Byte) : (s.withQLatch p c).qCmd = c := rfl
@[simp] theorem State.withQLatch_flt (p : Bool) (c : Byte) : (s.withQLatch p c).flt = s.flt := rfl
@[simp] theorem State.withQLatch_xData (p : Bool) (c : Byte) : (s.withQLatch p c).xData = s.xData := rfl
@[simp] theorem State.withQLatch_xValid (p : Bool) (c : Byte) : (s.withQLatch p c).xValid = s.xValid := rfl
@[simp] theorem State.withQLatch_qData (p : Bool) (c : Byte) : (s.withQLatch p c).qData = s.qData := rfl
@[simp] theorem State.withQLatch_qValid (p : Bool) (c : Byte) : (s.withQLatch p c).qValid = s.qValid := rfl
@[simp] theorem State.withQLatch_env (p : Bool) (c : Byte) : (s.withQLatch p c).env = s.env := rfl
@[simp] theorem State.withQLatch_draws (p : Bool) (c : Byte) : (s.withQLatch p c).draws = s.draws := rfl

@[simp] theorem State.withStrobes_hist (a b : Bool) : (s.withStrobes a b).hist = s.hist := rfl
@[simp] theorem State.withStrobes_sum (a b : Bool) : (s.withStrobes a b).sum = s.sum := rfl
@[simp] theorem State.withStrobes_idx (a b : Bool) : (s.withStrobes a b).idx = s.idx := rfl
@[simp] theorem State.withStrobes_filled (a b : Bool) : (s.withStrobes a b).filled = s.filled := rfl
@[simp] theorem State.withStrobes_tempState (a b : Bool) : (s.withStrobes a b).tempState = s.tempState := rfl
@[simp] theorem State.withStrobes_gasState (a b : Bool) : (s.withStrobes a b).gasState = s.gasState := rfl
@[simp] theorem State.withStrobes_target (a b : Bool) : (s.withStrobes a b).target = s.target := rfl
@[simp] theorem State.withStrobes_counter (a b : Bool) : (s.withStrobes a b).counter = s.counter := rfl
@[simp] theorem State.withStrobes_buzzer (a b : Bool) : (s.withStrobes a b).buzzer = s.buzzer := rfl
@[simp] theorem State.withStrobes_motor (a b : Bool) : (s.withStrobes a b).motor = s.motor := rfl
@[simp] theorem State.withStrobes_frame (a b : Bool) : (s.withStrobes a b).frame = s.frame := rfl
@[simp] theorem State.withStrobes_seq (a b : Bool) : (s.withStrobes a b).seq = s.seq := rfl
@[simp] theorem State.withStrobes_cursor (a b : Bool) : (s.withStrobes a b).cursor = s.cursor := rfl
@[simp] theorem State.withStrobes_pendAcq (a b : Bool) : (s.withStrobes a b).pendAcq = s.pendAcq := rfl
@[simp] theorem State.withStrobes_acqCmd (a b : Bool) : (s.withStrobes a b).acqCmd = s.acqCmd := rfl
@[simp] theorem State.withStrobes_acqData (a b : Bool) : (s.withStrobes a b).acqData = s.acqData := rfl
@[simp] theorem State.withStrobes_pendX (a b : Bool) : (s.withStrobes a b).pendX = s.pendX := rfl
@[simp] theorem State.withStrobes_xCmd (a b : Bool) : (s.withStrobes a b).xCmd = s.xCmd := rfl
@[simp] theorem State.withStrobes_pendTick (a b : Bool) : (s.withStrobes a b).pendTick = s.pendTick := rfl
@[simp] theorem State.withStrobes_tickCmd (a b : Bool) : (s.withStrobes a b).tickCmd = s.tickCmd := rfl
@[simp] theorem State.withStrobes_pendQ (a b : Bool) : (s.withStrobes a b).pendQ = s.pendQ := rfl
@[simp] theorem State.withStrobes_qCmd (a b : Bool) : (s.withStrobes a b).qCmd = s.qCmd := rfl
@[simp] theorem State.withStrobes_flt (a b : Bool) : (s.withStrobes a b).flt = s.flt := rfl
@[simp] theorem State.withStrobes_xData (a b : Bool) : (s.withStrobes a b).xData = s.xData := rfl
@[simp] theorem State.withStrobes_xValid (a b : Bool) : (s.withStrobes a b).xValid = a := rfl
@[simp] theorem State.withStrobes_qData (a b : Bool) : (s.withStrobes a b).qData = s.qData := rfl
@[simp] theorem State.withStrobes_qValid (a b : Bool) : (s.withStrobes a b).qValid = b := rfl
@[simp] theorem State.withStrobes_env (a b : Bool) : (s.withStrobes a b).env = s.env := rfl
@[simp] theorem State.withStrobes_draws (a b : Bool) : (s.withStrobes a b).draws = s.draws := rfl

@[simp] theorem State.withXData_hist (v : Byte) : (s.withXData v).hist = s.hist := rfl
@[simp] theorem State.withXData_sum (v : Byte) : (s.withXData v).sum = s.sum := rfl
@[simp] theorem State.withXData_idx (v : Byte) : (s.withXData v).idx = s.idx := rfl
@[simp] theorem State.withXData_filled (v : Byte) : (s.withXData v).filled = s.filled := rfl
@[simp] theorem State.withXData_tempState (v : Byte) : (s.withXData v).tempState = s.tempState := rfl
@[simp] theorem State.withXData_gasState (v : Byte) : (s.withXData v).gasState = s.gasState := rfl
@[simp] theorem State.withXData_target (v : Byte) : (s.withXData v).target = s.target := rfl
@[simp] theorem State.withXData_counter (v : Byte) : (s.withXData v).counter = s.counter := rfl
@[simp] theorem State.withXData_buzzer (v : Byte) : (s.withXData v).buzzer = s.buzzer := rfl
@[simp] theorem State.withXData_motor (v : Byte) : (s.withXData v).motor = s.motor := rfl
@[simp] theorem State.withXData_frame (v : Byte) : (s.withXData v).frame = s.frame := rfl
@[simp] theorem State.withXData_seq (v : Byte) : (s.withXData v).seq = s.seq := rfl
@[simp] theorem State.withXData_cursor (v : Byte) : (s.withXData v).cursor = s.cursor := rfl
@[simp] theorem State.withXData_pendAcq (v : Byte) : (s.withXData v).pendAcq = s.pendAcq := rfl
@[simp] theorem State.withXData_acqCmd (v : Byte) : (s.withXData v).acqCmd = s.acqCmd := rfl
@[simp] theorem State.withXData_acqData (v : Byte) : (s.withXData v).acqData = s.acqData := rfl
@[simp] theorem State.withXData_pendX (v : Byte) : (s.withXData v).pendX = s.pendX := rfl
@[simp] theorem State.withXData_xCmd (v : Byte) : (s.withXData v).xCmd = s.xCmd := rfl
@[simp] theorem State.withXData_pendTick (v : Byte) : (s.withXData v).pendTick = s.pendTick := rfl
@[simp] theorem State.withXData_tickCmd (v : Byte) : (s.withXData v).tickCmd = s.tickCmd := rfl
@[simp] theorem State.withXData_pendQ (v : Byte) : (s.withXData v).pendQ = s.pendQ := rfl
@[simp] theorem State.withXData_qCmd (v : Byte) : (s.withXData v).qCmd = s.qCmd := rfl
@[simp] theorem State.withXData_flt (v : Byte) : (s.withXData v).flt = s.flt := rfl
@[simp] theorem State.withXData_xData (v : Byte) : (s.withXData v).xData = v := rfl
@[simp] theorem State.withXData_xValid (v : Byte) : (s.withXData v).xValid = s.xValid := rfl
@[simp] theorem State.withXData_qData (v : Byte) : (s.withXData v).qData = s.qData := rfl
@[simp] theorem State.withXData_qValid (v : Byte) : (s.withXData v).qValid = s.qValid := rfl
@[simp] theorem State.withXData_env (v : Byte) : (s.withXData v).env = s.env := rfl
@[simp] theorem State.withXData_draws (v : Byte) : (s.withXData v).draws = s.draws := rfl

@[simp] theorem State.withQData_hist (v : Half) : (s.withQData v).hist = s.hist := rfl
@[simp] theorem State.withQData_sum (v : Half) : (s.withQData v).sum = s.sum := rfl
@[simp] theorem State.withQData_idx (v : Half) : (s.withQData v).idx = s.idx := rfl
@[simp] theorem State.withQData_filled (v : Half) : (s.withQData v).filled = s.filled := rfl
@[simp] theorem State.withQData_tempState (v : Half) : (s.withQData v).tempState = s.tempState := rfl
@[simp] theorem State.withQData_gasState (v : Half) : (s.withQData v).gasState = s.gasState := rfl
@[simp] theorem State.withQData_target (v : Half) : (s.withQData v).target = s.target := rfl
@[simp] theorem State.withQData_counter (v : Half) : (s.withQData v).counter = s.counter := rfl
@[simp] theorem State.withQData_buzzer (v : Half) : (s.withQData v).buzzer = s.buzzer := rfl
@[simp] theorem State.withQData_motor (v : Half) : (s.withQData v).motor = s.motor := rfl
@[simp] theorem State.withQData_frame (v : Half) : (s.withQData v).frame = s.frame := rfl
@[simp] theorem State.withQData_seq (v : Half) : (s.withQData v).seq = s.seq := rfl
@[simp] theorem State.withQData_cursor (v : Half) : (s.withQData v).cursor = s.cursor := rfl
@[simp] theorem State.withQData_pendAcq (v : Half) : (s.withQData v).pendAcq = s.pendAcq := rfl
@[simp] theorem State.withQData_acqCmd (v : Half) : (s.withQData v).acqCmd = s.acqCmd := rfl
@[simp] theorem State.withQData_acqData (v : Half) : (s.withQData v).acqData = s.acqData := rfl
@[simp] theorem State.withQData_pendX (v : Half) : (s.withQData v).pendX = s.pendX := rfl
@[simp] theorem State.withQData_xCmd (v : Half) : (s.withQData v).xCmd = s.xCmd := rfl
@[simp] theorem State.withQData_pendTick (v : Half) : (s.withQData v).pendTick = s.pendTick := rfl
@[simp] theorem State.withQData_tickCmd (v : Half) : (s.withQData v).tickCmd = s.tickCmd := rfl
@[simp] theorem State.withQData_pendQ (v : Half) : (s.withQData v).pendQ = s.pendQ := rfl
@[simp] theorem State.withQData_qCmd (v : Half) : (s.withQData v).qCmd = s.qCmd := rfl
@[simp] theorem State.withQData_flt (v : Half) : (s.withQData v).flt = s.flt := rfl
@[simp] theorem State.withQData_xData (v : Half) : (s.withQData v).xData = s.xData := rfl
@[simp] theorem State.withQData_xValid (v : Half) : (s.withQData v).xValid = s.xValid := rfl
@[simp] theorem State.withQData_qData (v : Half) : (s.withQData v).qData = v := rfl
@[simp] theorem State.withQData_qValid (v : Half) : (s.withQData v).qValid = s.qValid := rfl
@[simp] theorem State.withQData_env (v : Half) : (s.withQData v).env = s.env := rfl
@[simp] theorem State.withQData_draws (v : Half) : (s.withQData v).draws = s.draws := rfl

@[simp] theorem State.withEnv_hist (e : List Inputs) : (s.withEnv e).hist = s.hist := rfl
@[simp] theorem State.withEnv_sum (e : List Inputs) : (s.withEnv e).sum = s.sum := rfl
@[simp] theorem State.withEnv_idx (e : List Inputs) : (s.withEnv e).idx = s.idx := rfl
@[simp] theorem State.withEnv_filled (e : List Inputs) : (s.withEnv e).filled = s.filled := rfl
@[simp] theorem State.withEnv_tempState (e : List Inputs) : (s.withEnv e).tempState = s.tempState := rfl
@[simp] theorem State.withEnv_gasState (e : List Inputs) : (s.withEnv e).gasState = s.gasState := rfl
@[simp] theorem State.withEnv_target (e : List Inputs) : (s.withEnv e).target = s.target := rfl
@[simp] theorem State.withEnv_counter (e : List Inputs) : (s.withEnv e).counter = s.counter := rfl
@[simp] theorem State.withEnv_buzzer (e : List Inputs) : (s.withEnv e).buzzer = s.buzzer := rfl
@[simp] theorem State.withEnv_motor (e : List Inputs) : (s.withEnv e).motor = s.motor := rfl
@[simp] theorem State.withEnv_frame (e : List Inputs) : (s.withEnv e).frame = s.frame := rfl
@[simp] theorem State.withEnv_seq (e : List Inputs) : (s.withEnv e).seq = s.seq := rfl
@[simp] theorem State.withEnv_cursor (e : List Inputs) : (s.withEnv e).cursor = s.cursor := rfl
@[simp] theorem State.withEnv_pendAcq (e : List Inputs) : (s.withEnv e).pendAcq = s.pendAcq := rfl
@[simp] theorem State.withEnv_acqCmd (e : List Inputs) : (s.withEnv e).acqCmd = s.acqCmd := rfl
@[simp] theorem State.withEnv_acqData (e : List Inputs) : (s.withEnv e).acqData = s.acqData := rfl
@[simp] theorem State.withEnv_pendX (e : List Inputs) : (s.withEnv e).pendX = s.pendX := rfl
@[simp] theorem State.withEnv_xCmd (e : List Inputs) : (s.withEnv e).xCmd = s.xCmd := rfl
@[simp] theorem State.withEnv_pendTick (e : List Inputs) : (s.withEnv e).pendTick = s.pendTick := rfl
@[simp] theorem State.withEnv_tickCmd (e : List Inputs) : (s.withEnv e).tickCmd = s.tickCmd := rfl
@[simp] theorem State.withEnv_pendQ (e : List Inputs) : (s.withEnv e).pendQ = s.pendQ := rfl
@[simp] theorem State.withEnv_qCmd (e : List Inputs) : (s.withEnv e).qCmd = s.qCmd := rfl
@[simp] theorem State.withEnv_flt (e : List Inputs) : (s.withEnv e).flt = s.flt := rfl
@[simp] theorem State.withEnv_xData (e : List Inputs) : (s.withEnv e).xData = s.xData := rfl
@[simp] theorem State.withEnv_xValid (e : List Inputs) : (s.withEnv e).xValid = s.xValid := rfl
@[simp] theorem State.withEnv_qData (e : List Inputs) : (s.withEnv e).qData = s.qData := rfl
@[simp] theorem State.withEnv_qValid (e : List Inputs) : (s.withEnv e).qValid = s.qValid := rfl
@[simp] theorem State.withEnv_env (e : List Inputs) : (s.withEnv e).env = e := rfl
@[simp] theorem State.withEnv_draws (e : List Inputs) : (s.withEnv e).draws = s.draws := rfl

@[simp] theorem State.drawn_hist : (s.drawn).hist = s.hist := rfl
@[simp] theorem State.drawn_sum : (s.drawn).sum = s.sum := rfl
@[simp] theorem State.drawn_idx : (s.drawn).idx = s.idx := rfl
@[simp] theorem State.drawn_filled : (s.drawn).filled = s.filled := rfl
@[simp] theorem State.drawn_tempState : (s.drawn).tempState = s.tempState := rfl
@[simp] theorem State.drawn_gasState : (s.drawn).gasState = s.gasState := rfl
@[simp] theorem State.drawn_target : (s.drawn).target = s.target := rfl
@[simp] theorem State.drawn_counter : (s.drawn).counter = s.counter := rfl
@[simp] theorem State.drawn_buzzer : (s.drawn).buzzer = s.buzzer := rfl
@[simp] theorem State.drawn_motor : (s.drawn).motor = s.motor := rfl
@[simp] theorem State.drawn_frame : (s.drawn).frame = s.frame := rfl
@[simp] theorem State.drawn_seq : (s.drawn).seq = s.seq := rfl
@[simp] theorem State.drawn_cursor : (s.drawn).cursor = s.cursor := rfl
@[simp] theorem State.drawn_pendAcq : (s.drawn).pendAcq = s.pendAcq := rfl
@[simp] theorem State.drawn_acqCmd : (s.drawn).acqCmd = s.acqCmd := rfl
@[simp] theorem State.drawn_acqData : (s.drawn).acqData = s.acqData := rfl
@[simp] theorem State.drawn_pendX : (s.drawn).pendX = s.pendX := rfl
@[simp] theorem State.drawn_xCmd : (s.drawn).xCmd = s.xCmd := rfl
@[simp] theorem State.drawn_pendTick : (s.drawn).pendTick = s.pendTick := rfl
@[simp] theorem State.drawn_tickCmd : (s.drawn).tickCmd = s.tickCmd := rfl
@[simp] theorem State.drawn_pendQ : (s.drawn).pendQ = s.pendQ := rfl
@[simp] theorem State.drawn_qCmd : (s.drawn).qCmd = s.qCmd := rfl
@[simp] theorem State.drawn_flt : (s.drawn).flt = s.flt := rfl
@[simp] theorem State.drawn_xData : (s.drawn).xData = s.xData := rfl
@[simp] theorem State.drawn_xValid : (s.drawn).xValid = s.xValid := rfl
@[simp] theorem State.drawn_qData : (s.drawn).qData = s.qData := rfl
@[simp] theorem State.drawn_qValid : (s.drawn).qValid = s.qValid := rfl
@[simp] theorem State.drawn_env : (s.drawn).env = s.env := rfl
@[simp] theorem State.drawn_draws : (s.drawn).draws = s.draws + 1 := rfl

end Sys2Proof.Machine
end

