-- ==== Sys2Proof/Laws/Memory.lean ====
section
/-! SUPPORT. The frame memory: every operation keeps the canonical form, and a byte read is the byte published. -/

namespace Sys2Proof.Machine

/-- Cells built from an offset on are canonical, as long as they end at or below offset 16. -/
theorem Memory.wfFrom_cellsFrom (bs : List Byte) :
    ∀ a b, b ≤ a → a + bs.length ≤ 16 → Memory.wfFrom b (Memory.cellsFrom a bs) = true := by
  induction bs with
  | nil => intros; rfl
  | cons x rest ih =>
    intro a b hb hlen
    simp only [List.length_cons] at hlen
    by_cases hx : x = Memory.unlisted a
    · simpa [Memory.cellsFrom, hx] using ih (a + 1) b (by omega) (by omega)
    · have := ih (a + 1) (a + 1) (le_refl _) (by omega)
      simp [Memory.cellsFrom, Memory.wfFrom, hx, this]
      omega

/-- PUBLISH leaves a canonical frame memory. -/
theorem Memory.wf_ofBytes (bs : List Byte) (h : bs.length ≤ 16) : Memory.wf (Memory.ofBytes bs) = true :=
  Memory.wfFrom_cellsFrom bs 0 0 (le_refl _) (by omega)

/-- Below the first cell, every offset reads as unlisted. -/
theorem Memory.lookup_cellsFrom_lt (bs : List Byte) :
    ∀ a k, k < a → Memory.lookup (Memory.cellsFrom a bs) k = Memory.unlisted k := by
  induction bs with
  | nil => intros; rfl
  | cons x rest ih =>
    intro a k hk
    have hne : a ≠ k := by omega
    by_cases hx : x = Memory.unlisted a <;> simp [Memory.cellsFrom, Memory.lookup, hx, hne, ih (a + 1) k (by omega)]

/-- Cells built from `a` on read as the bytes they were built from. -/
theorem Memory.lookup_cellsFrom (bs : List Byte) :
    ∀ a n, (h : n < bs.length) → Memory.lookup (Memory.cellsFrom a bs) (a + n) = bs[n] := by
  induction bs with
  | nil => intro a n h; exact absurd h (by simp)
  | cons x rest ih =>
    intro a n h
    cases n with
    | zero =>
      by_cases hx : x = Memory.unlisted a
      · simpa [Memory.cellsFrom, hx] using Memory.lookup_cellsFrom_lt rest (a + 1) a (by omega)
      · simp [Memory.cellsFrom, Memory.lookup, hx]
    | succ m =>
      have hm : m < rest.length := by simpa using h
      have key := ih (a + 1) m hm
      rw [show a + 1 + m = a + (m + 1) by omega] at key
      by_cases hx : x = Memory.unlisted a <;> simp [Memory.cellsFrom, Memory.lookup, hx, key]

/-- A published frame reads back byte by byte: the old frame is gone (R202). -/
theorem Memory.read_ofBytes (bs : List Byte) (h : bs.length = 16) (a : Offset) :
    Memory.read (Memory.ofBytes bs) a = bs[a.toNat]'(by have := a.isLt; omega) := by
  have := Memory.lookup_cellsFrom bs 0 a.toNat (by have := a.isLt; omega)
  simpa [Memory.read, Memory.ofBytes] using this

/-- The reset state's frame memory is canonical. -/
theorem State.reset_frame_wf : Memory.wf State.reset.frame = true := rfl

end Sys2Proof.Machine
end

