-- ==== Sys2Proof/Laws/Ops.lean ====
section
/-! SUPPORT. What each shared operation of Machine/Ops.lean can do, said once. -/

namespace Sys2Proof.Machine

variable (s : State)

/-! ### Arrays by channel and slot -/

/-- The array built by `perChannel` holds the function's value at each channel. -/
@[simp] theorem perChannel_get {α : Type} (f : Channel → α) (c : Channel) :
    (perChannel f)[c.toNat]'(c.isLt) = f c := by
  have h : c = 0 ∨ c = 1 ∨ c = 2 ∨ c = 3 := by revert c; decide
  rcases h with rfl | rfl | rfl | rfl <;> rfl

/-- Two arrays over the channels are equal if they agree at each channel. -/
theorem channels_ext {α : Type} {u v : Vector α 4}
    (h : ∀ c : Channel, u[c.toNat]'(c.isLt) = v[c.toNat]'(c.isLt)) : u = v := by
  apply Vector.ext
  intro i hi
  have := h (BitVec.ofNat 2 i)
  simpa [Nat.mod_eq_of_lt hi] using this

@[simp] theorem State.sumAt_withFilter (h m i f) (c : Channel) :
    (s.withFilter h m i f).sumAt c = m[c.toNat]'(c.isLt) := rfl

@[simp] theorem State.histOf_withFilter (h m i f) (c : Channel) :
    (s.withFilter h m i f).histOf c = h[c.toNat]'(c.isLt) := rfl

/-! ### Commands and faults -/

/-- While the block is not faulted, a command has its effect. -/
theorem State.unlessFaulted_running {s : State} (h : s.faulted = false) (a b : State) :
    s.unlessFaulted a b = .next a := by simp [State.unlessFaulted, h]

/-- In the Faulted state, a command is consumed (R253). -/
theorem State.unlessFaulted_faulted {s : State} (h : s.faulted = true) (a b : State) :
    s.unlessFaulted a b = .next b := by simp [State.unlessFaulted, h]

/-- A command always completes, with one of the two results. -/
theorem State.unlessFaulted_cases {s t : State} {a b : State} (h : s.unlessFaulted a b = .next t) :
    (s.faulted = false ∧ t = a) ∨ (s.faulted = true ∧ t = b) := by
  cases hf : s.faulted
  · rw [State.unlessFaulted_running hf] at h; cases h; exact .inl ⟨rfl, rfl⟩
  · rw [State.unlessFaulted_faulted hf] at h; cases h; exact .inr ⟨rfl, rfl⟩

/-- The fault entry writes the fault register and nothing else, and only while not faulted (R251). -/
theorem State.raiseFault_eq (f : FaultCause) :
    s.raiseFault f = s.withFlt (if s.faulted then s.flt else f.code ++ 1#1) := by
  cases h : s.faulted
  · simp [State.raiseFault, h]
  · simp [State.raiseFault, h, State.withFlt]

/-! ### The data outputs -/

/-- Each output operation is a write of the two data outputs, the two strobes and the free-value index. -/
theorem State.returnNothing_eq :
    s.returnNothing = { s with xValid := false, qValid := false } := rfl

theorem State.returnX_eq (b : Byte) :
    s.returnX b = { s with xData := b, xValid := true, qValid := false } := rfl

theorem State.returnQ_eq (v : Half) :
    s.returnQ v = { s with qData := v, xValid := false, qValid := true } := rfl

theorem State.returnAnyX_eq :
    s.returnAnyX = { s with xData := Config.anyByte s.draws, xValid := true, qValid := false,
                            draws := s.draws + 1 } := rfl

theorem State.returnAnyQ_eq :
    s.returnAnyQ = { s with qData := Config.anyHalf s.draws, xValid := false, qValid := true,
                            draws := s.draws + 1 } := rfl

/-- Returning no value touches the data outputs, the strobes and the free-value index only. -/
theorem State.returnNoValue_eq (p : Port) :
    ∃ x q n, s.returnNoValue p = { s with xData := x, qData := q, xValid := false, qValid := false, draws := n } := by
  cases p
  · exact ⟨s.xData, s.qData, s.draws, rfl⟩
  · exact ⟨Config.anyByte s.draws, s.qData, s.draws + 1, rfl⟩
  · exact ⟨s.xData, s.qData, s.draws, rfl⟩
  · exact ⟨s.xData, Config.anyHalf s.draws, s.draws + 1, rfl⟩

/-! ### The latches -/

/-- Clearing a latch touches that port's latch and the free-value index only (R258). -/
theorem State.clearLatch_eq (p : Port) :
    ∃ pa ca da px cx pt ct pq cq n,
      s.clearLatch p = { s with pendAcq := pa, acqCmd := ca, acqData := da, pendX := px, xCmd := cx,
                                pendTick := pt, tickCmd := ct, pendQ := pq, qCmd := cq, draws := n } := by
  cases p <;> exact ⟨_, _, _, _, _, _, _, _, _, _, rfl⟩

/-- The cleared latch is clear, and the others are as they were. -/
theorem State.clearLatch_pending (p q : Port) :
    (s.clearLatch p).pending q = (s.pending q && decide (q ≠ p)) := by
  cases p <;> cases q <;> simp [State.clearLatch, State.pending]

theorem State.clearLatch_command {p q : Port} (h : q ≠ p) : (s.clearLatch p).command q = s.command q := by
  cases p <;> cases q <;> simp_all [State.clearLatch, State.command]

/-- Raising a request touches the latches only (R258). -/
theorem State.raise_eq (r : Request) :
    ∃ pa ca da px cx pt ct pq cq,
      s.raise r = { s with pendAcq := pa, acqCmd := ca, acqData := da, pendX := px, xCmd := cx,
                           pendTick := pt, tickCmd := ct, pendQ := pq, qCmd := cq } := by
  cases r <;> simp only [State.raise] <;> split <;> exact ⟨_, _, _, _, _, _, _, _, _, rfl⟩

theorem State.raiseAll_eq (rs : List Request) :
    ∀ s : State, ∃ pa ca da px cx pt ct pq cq,
      s.raiseAll rs = { s with pendAcq := pa, acqCmd := ca, acqData := da, pendX := px, xCmd := cx,
                               pendTick := pt, tickCmd := ct, pendQ := pq, qCmd := cq } := by
  induction rs with
  | nil => intro s; exact ⟨_, _, _, _, _, _, _, _, _, rfl⟩
  | cons r rest ih =>
    intro s
    obtain ⟨_, _, _, _, _, _, _, _, _, h1⟩ := s.raise_eq r
    obtain ⟨_, _, _, _, _, _, _, _, _, h2⟩ := ih (s.raise r)
    rw [State.raiseAll, h2, h1]
    exact ⟨_, _, _, _, _, _, _, _, _, rfl⟩

/-- The port served is pending (R259). -/
theorem State.nextPort_pending {s : State} {p : Port} (h : s.nextPort = some p) : s.pending p = true := by
  simp only [State.nextPort] at h
  repeat' split at h
  all_goals first | (cases h; assumption) | cases h

end Sys2Proof.Machine
end

