-- ==== Sys2Proof/Laws/Meanings.lean ====
section
/-! SUPPORT. What each component operation of the four units does, field by field. -/

namespace Sys2Proof.Machine

variable (s : State) (cfg : Params)

/-! ### Sample Filter -/

/-- INGEST gives each channel its next sum (R120). -/
@[simp] theorem State.sumAt_ingest (r : Readings) (c : Channel) : (s.ingest r).sumAt c = s.nextSum r c := by
  simp [State.ingest]

/-- INGEST gives each channel its next history (R120). -/
@[simp] theorem State.histOf_ingest (r : Readings) (c : Channel) : (s.ingest r).histOf c = s.nextHist r c := by
  simp [State.ingest]

/-- INGEST overwrites the slot `S.idx` of a channel and no other (R120). -/
theorem State.histAt_ingest (r : Readings) (c : Channel) (k : Slot) :
    (s.ingest r).histAt c k = if k = s.idx then readingOf r c else s.histAt c k := by
  have hk : s.idx.toNat = k.toNat ↔ k = s.idx :=
    ⟨fun h => (BitVec.eq_of_toNat_eq h).symm, fun h => by rw [h]⟩
  simp only [State.histAt, State.histOf_ingest, State.nextHist, Vector.getElem_set, hk]

@[simp] theorem State.idx_ingest (r : Readings) : (s.ingest r).idx = s.idx + 1 := rfl
@[simp] theorem State.filled_ingest (r : Readings) : (s.ingest r).filled = filledAfter s.filled s.idx := rfl

/-- FILTERED reads the filter's sum, index and `filled` only (R121, R122). -/
theorem State.filtered_congr {s t : State} (hs : t.sum = s.sum) (hi : t.idx = s.idx) (hf : t.filled = s.filled) :
    t.filtered = s.filtered := by
  funext c
  have he : t.effCount = s.effCount := by rw [State.effCount, State.effCount, hi, hf]
  have hc : t.sumAt c = s.sumAt c := by unfold State.sumAt; simp only [hs]
  rw [State.filtered, State.filtered, he, hc]

/-- METRIC reads what FILTERED reads (R123). -/
theorem State.metric_congr {s t : State} (hs : t.sum = s.sum) (hi : t.idx = s.idx) (hf : t.filled = s.filled) :
    t.metric cfg = s.metric cfg := by
  simp [State.metric, State.metricExact, State.filtered_congr hs hi hf]

/-- FILTERED as a number, for every state (R122). -/
theorem State.filtered_toNat (c : Channel) : (s.filtered c).toNat = (s.sumAt c).toNat / s.effCount := by
  unfold State.filtered
  split
  · rename_i h; simp [h]
  · have := (s.sumAt c).isLt
    have : (s.sumAt c).toNat / s.effCount ≤ (s.sumAt c).toNat := Nat.div_le_self _ _
    simp only [BitVec.toNat_ofNat]
    exact Nat.mod_eq_of_lt (by omega)

/-! ### Pattern driver -/

/-- SET_TARGET in one equation (R171). -/
theorem State.setTarget_eq (l : RiskLevel) :
    s.setTarget l = s.withTarget l (if l = s.target then s.counter else 0) := by
  by_cases h : l = s.target <;> simp [State.setTarget, h]

/-- SET_TARGET to the target already held changes nothing (R171). -/
theorem State.setTarget_target : s.setTarget s.target = s := by
  simp [State.setTarget_eq, State.withTarget]

/-- TICK writes the counter and the two outputs only (R172). -/
theorem State.tickOutputs_eq : ∃ n a b, s.tickOutputs cfg = { s with counter := n, buzzer := a, motor := b } := by
  unfold State.tickOutputs State.patternTick
  split <;> exact ⟨_, _, _, rfl⟩

/-! ### Frame publisher -/

/-- The build buffer has 16 bytes (R200). -/
@[simp] theorem frameBytes_length (seq status : Byte) (v : Channel → Half) (m : Half) :
    (frameBytes cfg seq status v m).length = 16 := rfl

/-- After BUILD, a frame byte is the build buffer's (R200, R202). -/
theorem State.frameByte_build (status : Byte) (v : Channel → Half) (m : Half) (a : Offset) :
    (s.build cfg status v m).frameByte a =
      (frameBytes cfg s.seq status v m)[a.toNat]'(by have := a.isLt; simp; omega) :=
  Memory.read_ofBytes _ rfl a

/-- BUILD leaves a canonical frame memory. -/
theorem State.build_frame_wf (status : Byte) (v : Channel → Half) (m : Half) :
    Memory.wf (s.build cfg status v m).frame = true := Memory.wf_ofBytes _ (by simp)

/-- RESET_CURSOR writes the cursor only (R206). -/
@[simp] theorem State.resetCursor_eq : s.resetCursor = s.withCursor 0 := rfl

/-! ### ACQUIRE -/

/-- What ACQUIRE's decision half leaves, field by field (R230). -/
theorem State.acquireDecide_eq (r : Readings) :
    ∃ a b n,
      a = riskStep s.tempState ((s.ingest r).tempInput cfg) cfg.thTemp ∧
      b = riskStep s.gasState ((s.ingest r).gasInput cfg) cfg.thGas ∧
      n = (if a.max b = s.target then s.counter else 0) ∧
      s.acquireDecide cfg r = ((s.ingest r).withRisk a b).withTarget (a.max b) n := by
  refine ⟨_, _, _, rfl, rfl, rfl, ?_⟩
  simp only [State.acquireDecide, State.classify, State.setTarget_eq]
  rfl

/-- What ACQUIRE leaves (R230): the decision half's registers, the frame built from them, the next seq, cursor 0. -/
theorem State.acquireCycle_eq (r : Readings) :
    s.acquireCycle cfg r =
      (((s.acquireDecide cfg r).withSeq ((s.acquireDecide cfg r).seq + 1)).withFrame
        (Memory.ofBytes (frameBytes cfg (s.acquireDecide cfg r).seq (s.acquireDecide cfg r).statusByte
          (s.acquireDecide cfg r).filtered ((s.acquireDecide cfg r).metric cfg)))).withCursor 0 := by
  simp only [State.acquireCycle, State.build, State.publish, State.resetCursor]

end Sys2Proof.Machine
end

