-- ==== Sys2Proof/Laws/Fields.lean ====
section
/-! SUPPORT. The frame of each shared operation: one lemma for each field it leaves as it was. -/

namespace Sys2Proof.Machine

variable (s : State) (cfg : Params)

@[simp] theorem State.returnNothing_hist : (s.returnNothing).hist = s.hist := rfl
@[simp] theorem State.returnNothing_sum : (s.returnNothing).sum = s.sum := rfl
@[simp] theorem State.returnNothing_idx : (s.returnNothing).idx = s.idx := rfl
@[simp] theorem State.returnNothing_filled : (s.returnNothing).filled = s.filled := rfl
@[simp] theorem State.returnNothing_tempState : (s.returnNothing).tempState = s.tempState := rfl
@[simp] theorem State.returnNothing_gasState : (s.returnNothing).gasState = s.gasState := rfl
@[simp] theorem State.returnNothing_target : (s.returnNothing).target = s.target := rfl
@[simp] theorem State.returnNothing_counter : (s.returnNothing).counter = s.counter := rfl
@[simp] theorem State.returnNothing_buzzer : (s.returnNothing).buzzer = s.buzzer := rfl
@[simp] theorem State.returnNothing_motor : (s.returnNothing).motor = s.motor := rfl
@[simp] theorem State.returnNothing_frame : (s.returnNothing).frame = s.frame := rfl
@[simp] theorem State.returnNothing_seq : (s.returnNothing).seq = s.seq := rfl
@[simp] theorem State.returnNothing_cursor : (s.returnNothing).cursor = s.cursor := rfl
@[simp] theorem State.returnNothing_pendAcq : (s.returnNothing).pendAcq = s.pendAcq := rfl
@[simp] theorem State.returnNothing_acqCmd : (s.returnNothing).acqCmd = s.acqCmd := rfl
@[simp] theorem State.returnNothing_acqData : (s.returnNothing).acqData = s.acqData := rfl
@[simp] theorem State.returnNothing_pendX : (s.returnNothing).pendX = s.pendX := rfl
@[simp] theorem State.returnNothing_xCmd : (s.returnNothing).xCmd = s.xCmd := rfl
@[simp] theorem State.returnNothing_pendTick : (s.returnNothing).pendTick = s.pendTick := rfl
@[simp] theorem State.returnNothing_tickCmd : (s.returnNothing).tickCmd = s.tickCmd := rfl
@[simp] theorem State.returnNothing_pendQ : (s.returnNothing).pendQ = s.pendQ := rfl
@[simp] theorem State.returnNothing_qCmd : (s.returnNothing).qCmd = s.qCmd := rfl
@[simp] theorem State.returnNothing_flt : (s.returnNothing).flt = s.flt := rfl
@[simp] theorem State.returnNothing_xData : (s.returnNothing).xData = s.xData := rfl
@[simp] theorem State.returnNothing_qData : (s.returnNothing).qData = s.qData := rfl
@[simp] theorem State.returnNothing_env : (s.returnNothing).env = s.env := rfl
@[simp] theorem State.returnNothing_draws : (s.returnNothing).draws = s.draws := rfl

@[simp] theorem State.returnX_hist (v : Byte) : (s.returnX v).hist = s.hist := rfl
@[simp] theorem State.returnX_sum (v : Byte) : (s.returnX v).sum = s.sum := rfl
@[simp] theorem State.returnX_idx (v : Byte) : (s.returnX v).idx = s.idx := rfl
@[simp] theorem State.returnX_filled (v : Byte) : (s.returnX v).filled = s.filled := rfl
@[simp] theorem State.returnX_tempState (v : Byte) : (s.returnX v).tempState = s.tempState := rfl
@[simp] theorem State.returnX_gasState (v : Byte) : (s.returnX v).gasState = s.gasState := rfl
@[simp] theorem State.returnX_target (v : Byte) : (s.returnX v).target = s.target := rfl
@[simp] theorem State.returnX_counter (v : Byte) : (s.returnX v).counter = s.counter := rfl
@[simp] theorem State.returnX_buzzer (v : Byte) : (s.returnX v).buzzer = s.buzzer := rfl
@[simp] theorem State.returnX_motor (v : Byte) : (s.returnX v).motor = s.motor := rfl
@[simp] theorem State.returnX_frame (v : Byte) : (s.returnX v).frame = s.frame := rfl
@[simp] theorem State.returnX_seq (v : Byte) : (s.returnX v).seq = s.seq := rfl
@[simp] theorem State.returnX_cursor (v : Byte) : (s.returnX v).cursor = s.cursor := rfl
@[simp] theorem State.returnX_pendAcq (v : Byte) : (s.returnX v).pendAcq = s.pendAcq := rfl
@[simp] theorem State.returnX_acqCmd (v : Byte) : (s.returnX v).acqCmd = s.acqCmd := rfl
@[simp] theorem State.returnX_acqData (v : Byte) : (s.returnX v).acqData = s.acqData := rfl
@[simp] theorem State.returnX_pendX (v : Byte) : (s.returnX v).pendX = s.pendX := rfl
@[simp] theorem State.returnX_xCmd (v : Byte) : (s.returnX v).xCmd = s.xCmd := rfl
@[simp] theorem State.returnX_pendTick (v : Byte) : (s.returnX v).pendTick = s.pendTick := rfl
@[simp] theorem State.returnX_tickCmd (v : Byte) : (s.returnX v).tickCmd = s.tickCmd := rfl
@[simp] theorem State.returnX_pendQ (v : Byte) : (s.returnX v).pendQ = s.pendQ := rfl
@[simp] theorem State.returnX_qCmd (v : Byte) : (s.returnX v).qCmd = s.qCmd := rfl
@[simp] theorem State.returnX_flt (v : Byte) : (s.returnX v).flt = s.flt := rfl
@[simp] theorem State.returnX_qData (v : Byte) : (s.returnX v).qData = s.qData := rfl
@[simp] theorem State.returnX_env (v : Byte) : (s.returnX v).env = s.env := rfl
@[simp] theorem State.returnX_draws (v : Byte) : (s.returnX v).draws = s.draws := rfl

@[simp] theorem State.returnQ_hist (v : Half) : (s.returnQ v).hist = s.hist := rfl
@[simp] theorem State.returnQ_sum (v : Half) : (s.returnQ v).sum = s.sum := rfl
@[simp] theorem State.returnQ_idx (v : Half) : (s.returnQ v).idx = s.idx := rfl
@[simp] theorem State.returnQ_filled (v : Half) : (s.returnQ v).filled = s.filled := rfl
@[simp] theorem State.returnQ_tempState (v : Half) : (s.returnQ v).tempState = s.tempState := rfl
@[simp] theorem State.returnQ_gasState (v : Half) : (s.returnQ v).gasState = s.gasState := rfl
@[simp] theorem State.returnQ_target (v : Half) : (s.returnQ v).target = s.target := rfl
@[simp] theorem State.returnQ_counter (v : Half) : (s.returnQ v).counter = s.counter := rfl
@[simp] theorem State.returnQ_buzzer (v : Half) : (s.returnQ v).buzzer = s.buzzer := rfl
@[simp] theorem State.returnQ_motor (v : Half) : (s.returnQ v).motor = s.motor := rfl
@[simp] theorem State.returnQ_frame (v : Half) : (s.returnQ v).frame = s.frame := rfl
@[simp] theorem State.returnQ_seq (v : Half) : (s.returnQ v).seq = s.seq := rfl
@[simp] theorem State.returnQ_cursor (v : Half) : (s.returnQ v).cursor = s.cursor := rfl
@[simp] theorem State.returnQ_pendAcq (v : Half) : (s.returnQ v).pendAcq = s.pendAcq := rfl
@[simp] theorem State.returnQ_acqCmd (v : Half) : (s.returnQ v).acqCmd = s.acqCmd := rfl
@[simp] theorem State.returnQ_acqData (v : Half) : (s.returnQ v).acqData = s.acqData := rfl
@[simp] theorem State.returnQ_pendX (v : Half) : (s.returnQ v).pendX = s.pendX := rfl
@[simp] theorem State.returnQ_xCmd (v : Half) : (s.returnQ v).xCmd = s.xCmd := rfl
@[simp] theorem State.returnQ_pendTick (v : Half) : (s.returnQ v).pendTick = s.pendTick := rfl
@[simp] theorem State.returnQ_tickCmd (v : Half) : (s.returnQ v).tickCmd = s.tickCmd := rfl
@[simp] theorem State.returnQ_pendQ (v : Half) : (s.returnQ v).pendQ = s.pendQ := rfl
@[simp] theorem State.returnQ_qCmd (v : Half) : (s.returnQ v).qCmd = s.qCmd := rfl
@[simp] theorem State.returnQ_flt (v : Half) : (s.returnQ v).flt = s.flt := rfl
@[simp] theorem State.returnQ_xData (v : Half) : (s.returnQ v).xData = s.xData := rfl
@[simp] theorem State.returnQ_env (v : Half) : (s.returnQ v).env = s.env := rfl
@[simp] theorem State.returnQ_draws (v : Half) : (s.returnQ v).draws = s.draws := rfl

@[simp] theorem State.returnAnyX_hist : (s.returnAnyX).hist = s.hist := rfl
@[simp] theorem State.returnAnyX_sum : (s.returnAnyX).sum = s.sum := rfl
@[simp] theorem State.returnAnyX_idx : (s.returnAnyX).idx = s.idx := rfl
@[simp] theorem State.returnAnyX_filled : (s.returnAnyX).filled = s.filled := rfl
@[simp] theorem State.returnAnyX_tempState : (s.returnAnyX).tempState = s.tempState := rfl
@[simp] theorem State.returnAnyX_gasState : (s.returnAnyX).gasState = s.gasState := rfl
@[simp] theorem State.returnAnyX_target : (s.returnAnyX).target = s.target := rfl
@[simp] theorem State.returnAnyX_counter : (s.returnAnyX).counter = s.counter := rfl
@[simp] theorem State.returnAnyX_buzzer : (s.returnAnyX).buzzer = s.buzzer := rfl
@[simp] theorem State.returnAnyX_motor : (s.returnAnyX).motor = s.motor := rfl
@[simp] theorem State.returnAnyX_frame : (s.returnAnyX).frame = s.frame := rfl
@[simp] theorem State.returnAnyX_seq : (s.returnAnyX).seq = s.seq := rfl
@[simp] theorem State.returnAnyX_cursor : (s.returnAnyX).cursor = s.cursor := rfl
@[simp] theorem State.returnAnyX_pendAcq : (s.returnAnyX).pendAcq = s.pendAcq := rfl
@[simp] theorem State.returnAnyX_acqCmd : (s.returnAnyX).acqCmd = s.acqCmd := rfl
@[simp] theorem State.returnAnyX_acqData : (s.returnAnyX).acqData = s.acqData := rfl
@[simp] theorem State.returnAnyX_pendX : (s.returnAnyX).pendX = s.pendX := rfl
@[simp] theorem State.returnAnyX_xCmd : (s.returnAnyX).xCmd = s.xCmd := rfl
@[simp] theorem State.returnAnyX_pendTick : (s.returnAnyX).pendTick = s.pendTick := rfl
@[simp] theorem State.returnAnyX_tickCmd : (s.returnAnyX).tickCmd = s.tickCmd := rfl
@[simp] theorem State.returnAnyX_pendQ : (s.returnAnyX).pendQ = s.pendQ := rfl
@[simp] theorem State.returnAnyX_qCmd : (s.returnAnyX).qCmd = s.qCmd := rfl
@[simp] theorem State.returnAnyX_flt : (s.returnAnyX).flt = s.flt := rfl
@[simp] theorem State.returnAnyX_qData : (s.returnAnyX).qData = s.qData := rfl
@[simp] theorem State.returnAnyX_env : (s.returnAnyX).env = s.env := rfl

@[simp] theorem State.returnAnyQ_hist : (s.returnAnyQ).hist = s.hist := rfl
@[simp] theorem State.returnAnyQ_sum : (s.returnAnyQ).sum = s.sum := rfl
@[simp] theorem State.returnAnyQ_idx : (s.returnAnyQ).idx = s.idx := rfl
@[simp] theorem State.returnAnyQ_filled : (s.returnAnyQ).filled = s.filled := rfl
@[simp] theorem State.returnAnyQ_tempState : (s.returnAnyQ).tempState = s.tempState := rfl
@[simp] theorem State.returnAnyQ_gasState : (s.returnAnyQ).gasState = s.gasState := rfl
@[simp] theorem State.returnAnyQ_target : (s.returnAnyQ).target = s.target := rfl
@[simp] theorem State.returnAnyQ_counter : (s.returnAnyQ).counter = s.counter := rfl
@[simp] theorem State.returnAnyQ_buzzer : (s.returnAnyQ).buzzer = s.buzzer := rfl
@[simp] theorem State.returnAnyQ_motor : (s.returnAnyQ).motor = s.motor := rfl
@[simp] theorem State.returnAnyQ_frame : (s.returnAnyQ).frame = s.frame := rfl
@[simp] theorem State.returnAnyQ_seq : (s.returnAnyQ).seq = s.seq := rfl
@[simp] theorem State.returnAnyQ_cursor : (s.returnAnyQ).cursor = s.cursor := rfl
@[simp] theorem State.returnAnyQ_pendAcq : (s.returnAnyQ).pendAcq = s.pendAcq := rfl
@[simp] theorem State.returnAnyQ_acqCmd : (s.returnAnyQ).acqCmd = s.acqCmd := rfl
@[simp] theorem State.returnAnyQ_acqData : (s.returnAnyQ).acqData = s.acqData := rfl
@[simp] theorem State.returnAnyQ_pendX : (s.returnAnyQ).pendX = s.pendX := rfl
@[simp] theorem State.returnAnyQ_xCmd : (s.returnAnyQ).xCmd = s.xCmd := rfl
@[simp] theorem State.returnAnyQ_pendTick : (s.returnAnyQ).pendTick = s.pendTick := rfl
@[simp] theorem State.returnAnyQ_tickCmd : (s.returnAnyQ).tickCmd = s.tickCmd := rfl
@[simp] theorem State.returnAnyQ_pendQ : (s.returnAnyQ).pendQ = s.pendQ := rfl
@[simp] theorem State.returnAnyQ_qCmd : (s.returnAnyQ).qCmd = s.qCmd := rfl
@[simp] theorem State.returnAnyQ_flt : (s.returnAnyQ).flt = s.flt := rfl
@[simp] theorem State.returnAnyQ_xData : (s.returnAnyQ).xData = s.xData := rfl
@[simp] theorem State.returnAnyQ_env : (s.returnAnyQ).env = s.env := rfl

@[simp] theorem State.returnNoValue_hist (p : Port) : (s.returnNoValue p).hist = s.hist := by cases p <;> rfl
@[simp] theorem State.returnNoValue_sum (p : Port) : (s.returnNoValue p).sum = s.sum := by cases p <;> rfl
@[simp] theorem State.returnNoValue_idx (p : Port) : (s.returnNoValue p).idx = s.idx := by cases p <;> rfl
@[simp] theorem State.returnNoValue_filled (p : Port) : (s.returnNoValue p).filled = s.filled := by cases p <;> rfl
@[simp] theorem State.returnNoValue_tempState (p : Port) : (s.returnNoValue p).tempState = s.tempState := by cases p <;> rfl
@[simp] theorem State.returnNoValue_gasState (p : Port) : (s.returnNoValue p).gasState = s.gasState := by cases p <;> rfl
@[simp] theorem State.returnNoValue_target (p : Port) : (s.returnNoValue p).target = s.target := by cases p <;> rfl
@[simp] theorem State.returnNoValue_counter (p : Port) : (s.returnNoValue p).counter = s.counter := by cases p <;> rfl
@[simp] theorem State.returnNoValue_buzzer (p : Port) : (s.returnNoValue p).buzzer = s.buzzer := by cases p <;> rfl
@[simp] theorem State.returnNoValue_motor (p : Port) : (s.returnNoValue p).motor = s.motor := by cases p <;> rfl
@[simp] theorem State.returnNoValue_frame (p : Port) : (s.returnNoValue p).frame = s.frame := by cases p <;> rfl
@[simp] theorem State.returnNoValue_seq (p : Port) : (s.returnNoValue p).seq = s.seq := by cases p <;> rfl
@[simp] theorem State.returnNoValue_cursor (p : Port) : (s.returnNoValue p).cursor = s.cursor := by cases p <;> rfl
@[simp] theorem State.returnNoValue_pendAcq (p : Port) : (s.returnNoValue p).pendAcq = s.pendAcq := by cases p <;> rfl
@[simp] theorem State.returnNoValue_acqCmd (p : Port) : (s.returnNoValue p).acqCmd = s.acqCmd := by cases p <;> rfl
@[simp] theorem State.returnNoValue_acqData (p : Port) : (s.returnNoValue p).acqData = s.acqData := by cases p <;> rfl
@[simp] theorem State.returnNoValue_pendX (p : Port) : (s.returnNoValue p).pendX = s.pendX := by cases p <;> rfl
@[simp] theorem State.returnNoValue_xCmd (p : Port) : (s.returnNoValue p).xCmd = s.xCmd := by cases p <;> rfl
@[simp] theorem State.returnNoValue_pendTick (p : Port) : (s.returnNoValue p).pendTick = s.pendTick := by cases p <;> rfl
@[simp] theorem State.returnNoValue_tickCmd (p : Port) : (s.returnNoValue p).tickCmd = s.tickCmd := by cases p <;> rfl
@[simp] theorem State.returnNoValue_pendQ (p : Port) : (s.returnNoValue p).pendQ = s.pendQ := by cases p <;> rfl
@[simp] theorem State.returnNoValue_qCmd (p : Port) : (s.returnNoValue p).qCmd = s.qCmd := by cases p <;> rfl
@[simp] theorem State.returnNoValue_flt (p : Port) : (s.returnNoValue p).flt = s.flt := by cases p <;> rfl
@[simp] theorem State.returnNoValue_env (p : Port) : (s.returnNoValue p).env = s.env := by cases p <;> rfl

@[simp] theorem State.raiseFault_hist (f : FaultCause) : (s.raiseFault f).hist = s.hist := by rw [State.raiseFault_eq]; rfl
@[simp] theorem State.raiseFault_sum (f : FaultCause) : (s.raiseFault f).sum = s.sum := by rw [State.raiseFault_eq]; rfl
@[simp] theorem State.raiseFault_idx (f : FaultCause) : (s.raiseFault f).idx = s.idx := by rw [State.raiseFault_eq]; rfl
@[simp] theorem State.raiseFault_filled (f : FaultCause) : (s.raiseFault f).filled = s.filled := by rw [State.raiseFault_eq]; rfl
@[simp] theorem State.raiseFault_tempState (f : FaultCause) : (s.raiseFault f).tempState = s.tempState := by rw [State.raiseFault_eq]; rfl
@[simp] theorem State.raiseFault_gasState (f : FaultCause) : (s.raiseFault f).gasState = s.gasState := by rw [State.raiseFault_eq]; rfl
@[simp] theorem State.raiseFault_target (f : FaultCause) : (s.raiseFault f).target = s.target := by rw [State.raiseFault_eq]; rfl
@[simp] theorem State.raiseFault_counter (f : FaultCause) : (s.raiseFault f).counter = s.counter := by rw [State.raiseFault_eq]; rfl
@[simp] theorem State.raiseFault_buzzer (f : FaultCause) : (s.raiseFault f).buzzer = s.buzzer := by rw [State.raiseFault_eq]; rfl
@[simp] theorem State.raiseFault_motor (f : FaultCause) : (s.raiseFault f).motor = s.motor := by rw [State.raiseFault_eq]; rfl
@[simp] theorem State.raiseFault_frame (f : FaultCause) : (s.raiseFault f).frame = s.frame := by rw [State.raiseFault_eq]; rfl
@[simp] theorem State.raiseFault_seq (f : FaultCause) : (s.raiseFault f).seq = s.seq := by rw [State.raiseFault_eq]; rfl
@[simp] theorem State.raiseFault_cursor (f : FaultCause) : (s.raiseFault f).cursor = s.cursor := by rw [State.raiseFault_eq]; rfl
@[simp] theorem State.raiseFault_pendAcq (f : FaultCause) : (s.raiseFault f).pendAcq = s.pendAcq := by rw [State.raiseFault_eq]; rfl
@[simp] theorem State.raiseFault_acqCmd (f : FaultCause) : (s.raiseFault f).acqCmd = s.acqCmd := by rw [State.raiseFault_eq]; rfl
@[simp] theorem State.raiseFault_acqData (f : FaultCause) : (s.raiseFault f).acqData = s.acqData := by rw [State.raiseFault_eq]; rfl
@[simp] theorem State.raiseFault_pendX (f : FaultCause) : (s.raiseFault f).pendX = s.pendX := by rw [State.raiseFault_eq]; rfl
@[simp] theorem State.raiseFault_xCmd (f : FaultCause) : (s.raiseFault f).xCmd = s.xCmd := by rw [State.raiseFault_eq]; rfl
@[simp] theorem State.raiseFault_pendTick (f : FaultCause) : (s.raiseFault f).pendTick = s.pendTick := by rw [State.raiseFault_eq]; rfl
@[simp] theorem State.raiseFault_tickCmd (f : FaultCause) : (s.raiseFault f).tickCmd = s.tickCmd := by rw [State.raiseFault_eq]; rfl
@[simp] theorem State.raiseFault_pendQ (f : FaultCause) : (s.raiseFault f).pendQ = s.pendQ := by rw [State.raiseFault_eq]; rfl
@[simp] theorem State.raiseFault_qCmd (f : FaultCause) : (s.raiseFault f).qCmd = s.qCmd := by rw [State.raiseFault_eq]; rfl
@[simp] theorem State.raiseFault_xData (f : FaultCause) : (s.raiseFault f).xData = s.xData := by rw [State.raiseFault_eq]; rfl
@[simp] theorem State.raiseFault_xValid (f : FaultCause) : (s.raiseFault f).xValid = s.xValid := by rw [State.raiseFault_eq]; rfl
@[simp] theorem State.raiseFault_qData (f : FaultCause) : (s.raiseFault f).qData = s.qData := by rw [State.raiseFault_eq]; rfl
@[simp] theorem State.raiseFault_qValid (f : FaultCause) : (s.raiseFault f).qValid = s.qValid := by rw [State.raiseFault_eq]; rfl
@[simp] theorem State.raiseFault_env (f : FaultCause) : (s.raiseFault f).env = s.env := by rw [State.raiseFault_eq]; rfl
@[simp] theorem State.raiseFault_draws (f : FaultCause) : (s.raiseFault f).draws = s.draws := by rw [State.raiseFault_eq]; rfl

@[simp] theorem State.faultOn_hist (p : Port) (f : FaultCause) : (s.faultOn p f).hist = s.hist := by simp [State.faultOn]
@[simp] theorem State.faultOn_sum (p : Port) (f : FaultCause) : (s.faultOn p f).sum = s.sum := by simp [State.faultOn]
@[simp] theorem State.faultOn_idx (p : Port) (f : FaultCause) : (s.faultOn p f).idx = s.idx := by simp [State.faultOn]
@[simp] theorem State.faultOn_filled (p : Port) (f : FaultCause) : (s.faultOn p f).filled = s.filled := by simp [State.faultOn]
@[simp] theorem State.faultOn_tempState (p : Port) (f : FaultCause) : (s.faultOn p f).tempState = s.tempState := by simp [State.faultOn]
@[simp] theorem State.faultOn_gasState (p : Port) (f : FaultCause) : (s.faultOn p f).gasState = s.gasState := by simp [State.faultOn]
@[simp] theorem State.faultOn_target (p : Port) (f : FaultCause) : (s.faultOn p f).target = s.target := by simp [State.faultOn]
@[simp] theorem State.faultOn_counter (p : Port) (f : FaultCause) : (s.faultOn p f).counter = s.counter := by simp [State.faultOn]
@[simp] theorem State.faultOn_buzzer (p : Port) (f : FaultCause) : (s.faultOn p f).buzzer = s.buzzer := by simp [State.faultOn]
@[simp] theorem State.faultOn_motor (p : Port) (f : FaultCause) : (s.faultOn p f).motor = s.motor := by simp [State.faultOn]
@[simp] theorem State.faultOn_frame (p : Port) (f : FaultCause) : (s.faultOn p f).frame = s.frame := by simp [State.faultOn]
@[simp] theorem State.faultOn_seq (p : Port) (f : FaultCause) : (s.faultOn p f).seq = s.seq := by simp [State.faultOn]
@[simp] theorem State.faultOn_cursor (p : Port) (f : FaultCause) : (s.faultOn p f).cursor = s.cursor := by simp [State.faultOn]
@[simp] theorem State.faultOn_pendAcq (p : Port) (f : FaultCause) : (s.faultOn p f).pendAcq = s.pendAcq := by simp [State.faultOn]
@[simp] theorem State.faultOn_acqCmd (p : Port) (f : FaultCause) : (s.faultOn p f).acqCmd = s.acqCmd := by simp [State.faultOn]
@[simp] theorem State.faultOn_acqData (p : Port) (f : FaultCause) : (s.faultOn p f).acqData = s.acqData := by simp [State.faultOn]
@[simp] theorem State.faultOn_pendX (p : Port) (f : FaultCause) : (s.faultOn p f).pendX = s.pendX := by simp [State.faultOn]
@[simp] theorem State.faultOn_xCmd (p : Port) (f : FaultCause) : (s.faultOn p f).xCmd = s.xCmd := by simp [State.faultOn]
@[simp] theorem State.faultOn_pendTick (p : Port) (f : FaultCause) : (s.faultOn p f).pendTick = s.pendTick := by simp [State.faultOn]
@[simp] theorem State.faultOn_tickCmd (p : Port) (f : FaultCause) : (s.faultOn p f).tickCmd = s.tickCmd := by simp [State.faultOn]
@[simp] theorem State.faultOn_pendQ (p : Port) (f : FaultCause) : (s.faultOn p f).pendQ = s.pendQ := by simp [State.faultOn]
@[simp] theorem State.faultOn_qCmd (p : Port) (f : FaultCause) : (s.faultOn p f).qCmd = s.qCmd := by simp [State.faultOn]
@[simp] theorem State.faultOn_env (p : Port) (f : FaultCause) : (s.faultOn p f).env = s.env := by simp [State.faultOn]

@[simp] theorem State.serveIllegal_hist (p : Port) : (s.serveIllegal p).hist = s.hist := by simp [State.serveIllegal]
@[simp] theorem State.serveIllegal_sum (p : Port) : (s.serveIllegal p).sum = s.sum := by simp [State.serveIllegal]
@[simp] theorem State.serveIllegal_idx (p : Port) : (s.serveIllegal p).idx = s.idx := by simp [State.serveIllegal]
@[simp] theorem State.serveIllegal_filled (p : Port) : (s.serveIllegal p).filled = s.filled := by simp [State.serveIllegal]
@[simp] theorem State.serveIllegal_tempState (p : Port) : (s.serveIllegal p).tempState = s.tempState := by simp [State.serveIllegal]
@[simp] theorem State.serveIllegal_gasState (p : Port) : (s.serveIllegal p).gasState = s.gasState := by simp [State.serveIllegal]
@[simp] theorem State.serveIllegal_target (p : Port) : (s.serveIllegal p).target = s.target := by simp [State.serveIllegal]
@[simp] theorem State.serveIllegal_counter (p : Port) : (s.serveIllegal p).counter = s.counter := by simp [State.serveIllegal]
@[simp] theorem State.serveIllegal_buzzer (p : Port) : (s.serveIllegal p).buzzer = s.buzzer := by simp [State.serveIllegal]
@[simp] theorem State.serveIllegal_motor (p : Port) : (s.serveIllegal p).motor = s.motor := by simp [State.serveIllegal]
@[simp] theorem State.serveIllegal_frame (p : Port) : (s.serveIllegal p).frame = s.frame := by simp [State.serveIllegal]
@[simp] theorem State.serveIllegal_seq (p : Port) : (s.serveIllegal p).seq = s.seq := by simp [State.serveIllegal]
@[simp] theorem State.serveIllegal_cursor (p : Port) : (s.serveIllegal p).cursor = s.cursor := by simp [State.serveIllegal]
@[simp] theorem State.serveIllegal_pendAcq (p : Port) : (s.serveIllegal p).pendAcq = s.pendAcq := by simp [State.serveIllegal]
@[simp] theorem State.serveIllegal_acqCmd (p : Port) : (s.serveIllegal p).acqCmd = s.acqCmd := by simp [State.serveIllegal]
@[simp] theorem State.serveIllegal_acqData (p : Port) : (s.serveIllegal p).acqData = s.acqData := by simp [State.serveIllegal]
@[simp] theorem State.serveIllegal_pendX (p : Port) : (s.serveIllegal p).pendX = s.pendX := by simp [State.serveIllegal]
@[simp] theorem State.serveIllegal_xCmd (p : Port) : (s.serveIllegal p).xCmd = s.xCmd := by simp [State.serveIllegal]
@[simp] theorem State.serveIllegal_pendTick (p : Port) : (s.serveIllegal p).pendTick = s.pendTick := by simp [State.serveIllegal]
@[simp] theorem State.serveIllegal_tickCmd (p : Port) : (s.serveIllegal p).tickCmd = s.tickCmd := by simp [State.serveIllegal]
@[simp] theorem State.serveIllegal_pendQ (p : Port) : (s.serveIllegal p).pendQ = s.pendQ := by simp [State.serveIllegal]
@[simp] theorem State.serveIllegal_qCmd (p : Port) : (s.serveIllegal p).qCmd = s.qCmd := by simp [State.serveIllegal]
@[simp] theorem State.serveIllegal_env (p : Port) : (s.serveIllegal p).env = s.env := by simp [State.serveIllegal]

@[simp] theorem State.clearLatch_hist (p : Port) : (s.clearLatch p).hist = s.hist := by cases p <;> rfl
@[simp] theorem State.clearLatch_sum (p : Port) : (s.clearLatch p).sum = s.sum := by cases p <;> rfl
@[simp] theorem State.clearLatch_idx (p : Port) : (s.clearLatch p).idx = s.idx := by cases p <;> rfl
@[simp] theorem State.clearLatch_filled (p : Port) : (s.clearLatch p).filled = s.filled := by cases p <;> rfl
@[simp] theorem State.clearLatch_tempState (p : Port) : (s.clearLatch p).tempState = s.tempState := by cases p <;> rfl
@[simp] theorem State.clearLatch_gasState (p : Port) : (s.clearLatch p).gasState = s.gasState := by cases p <;> rfl
@[simp] theorem State.clearLatch_target (p : Port) : (s.clearLatch p).target = s.target := by cases p <;> rfl
@[simp] theorem State.clearLatch_counter (p : Port) : (s.clearLatch p).counter = s.counter := by cases p <;> rfl
@[simp] theorem State.clearLatch_buzzer (p : Port) : (s.clearLatch p).buzzer = s.buzzer := by cases p <;> rfl
@[simp] theorem State.clearLatch_motor (p : Port) : (s.clearLatch p).motor = s.motor := by cases p <;> rfl
@[simp] theorem State.clearLatch_frame (p : Port) : (s.clearLatch p).frame = s.frame := by cases p <;> rfl
@[simp] theorem State.clearLatch_seq (p : Port) : (s.clearLatch p).seq = s.seq := by cases p <;> rfl
@[simp] theorem State.clearLatch_cursor (p : Port) : (s.clearLatch p).cursor = s.cursor := by cases p <;> rfl
@[simp] theorem State.clearLatch_flt (p : Port) : (s.clearLatch p).flt = s.flt := by cases p <;> rfl
@[simp] theorem State.clearLatch_xData (p : Port) : (s.clearLatch p).xData = s.xData := by cases p <;> rfl
@[simp] theorem State.clearLatch_xValid (p : Port) : (s.clearLatch p).xValid = s.xValid := by cases p <;> rfl
@[simp] theorem State.clearLatch_qData (p : Port) : (s.clearLatch p).qData = s.qData := by cases p <;> rfl
@[simp] theorem State.clearLatch_qValid (p : Port) : (s.clearLatch p).qValid = s.qValid := by cases p <;> rfl
@[simp] theorem State.clearLatch_env (p : Port) : (s.clearLatch p).env = s.env := by cases p <;> rfl

@[simp] theorem State.raise_hist (r : Request) : (s.raise r).hist = s.hist := by cases r <;> simp only [State.raise] <;> split <;> rfl
@[simp] theorem State.raise_sum (r : Request) : (s.raise r).sum = s.sum := by cases r <;> simp only [State.raise] <;> split <;> rfl
@[simp] theorem State.raise_idx (r : Request) : (s.raise r).idx = s.idx := by cases r <;> simp only [State.raise] <;> split <;> rfl
@[simp] theorem State.raise_filled (r : Request) : (s.raise r).filled = s.filled := by cases r <;> simp only [State.raise] <;> split <;> rfl
@[simp] theorem State.raise_tempState (r : Request) : (s.raise r).tempState = s.tempState := by cases r <;> simp only [State.raise] <;> split <;> rfl
@[simp] theorem State.raise_gasState (r : Request) : (s.raise r).gasState = s.gasState := by cases r <;> simp only [State.raise] <;> split <;> rfl
@[simp] theorem State.raise_target (r : Request) : (s.raise r).target = s.target := by cases r <;> simp only [State.raise] <;> split <;> rfl
@[simp] theorem State.raise_counter (r : Request) : (s.raise r).counter = s.counter := by cases r <;> simp only [State.raise] <;> split <;> rfl
@[simp] theorem State.raise_buzzer (r : Request) : (s.raise r).buzzer = s.buzzer := by cases r <;> simp only [State.raise] <;> split <;> rfl
@[simp] theorem State.raise_motor (r : Request) : (s.raise r).motor = s.motor := by cases r <;> simp only [State.raise] <;> split <;> rfl
@[simp] theorem State.raise_frame (r : Request) : (s.raise r).frame = s.frame := by cases r <;> simp only [State.raise] <;> split <;> rfl
@[simp] theorem State.raise_seq (r : Request) : (s.raise r).seq = s.seq := by cases r <;> simp only [State.raise] <;> split <;> rfl
@[simp] theorem State.raise_cursor (r : Request) : (s.raise r).cursor = s.cursor := by cases r <;> simp only [State.raise] <;> split <;> rfl
@[simp] theorem State.raise_flt (r : Request) : (s.raise r).flt = s.flt := by cases r <;> simp only [State.raise] <;> split <;> rfl
@[simp] theorem State.raise_xData (r : Request) : (s.raise r).xData = s.xData := by cases r <;> simp only [State.raise] <;> split <;> rfl
@[simp] theorem State.raise_xValid (r : Request) : (s.raise r).xValid = s.xValid := by cases r <;> simp only [State.raise] <;> split <;> rfl
@[simp] theorem State.raise_qData (r : Request) : (s.raise r).qData = s.qData := by cases r <;> simp only [State.raise] <;> split <;> rfl
@[simp] theorem State.raise_qValid (r : Request) : (s.raise r).qValid = s.qValid := by cases r <;> simp only [State.raise] <;> split <;> rfl
@[simp] theorem State.raise_env (r : Request) : (s.raise r).env = s.env := by cases r <;> simp only [State.raise] <;> split <;> rfl
@[simp] theorem State.raise_draws (r : Request) : (s.raise r).draws = s.draws := by cases r <;> simp only [State.raise] <;> split <;> rfl

@[simp] theorem State.raiseAll_hist (rs : List Request) : (s.raiseAll rs).hist = s.hist := by
  obtain ⟨_, _, _, _, _, _, _, _, _, h⟩ := State.raiseAll_eq rs s; rw [h]
@[simp] theorem State.raiseAll_sum (rs : List Request) : (s.raiseAll rs).sum = s.sum := by
  obtain ⟨_, _, _, _, _, _, _, _, _, h⟩ := State.raiseAll_eq rs s; rw [h]
@[simp] theorem State.raiseAll_idx (rs : List Request) : (s.raiseAll rs).idx = s.idx := by
  obtain ⟨_, _, _, _, _, _, _, _, _, h⟩ := State.raiseAll_eq rs s; rw [h]
@[simp] theorem State.raiseAll_filled (rs : List Request) : (s.raiseAll rs).filled = s.filled := by
  obtain ⟨_, _, _, _, _, _, _, _, _, h⟩ := State.raiseAll_eq rs s; rw [h]
@[simp] theorem State.raiseAll_tempState (rs : List Request) : (s.raiseAll rs).tempState = s.tempState := by
  obtain ⟨_, _, _, _, _, _, _, _, _, h⟩ := State.raiseAll_eq rs s; rw [h]
@[simp] theorem State.raiseAll_gasState (rs : List Request) : (s.raiseAll rs).gasState = s.gasState := by
  obtain ⟨_, _, _, _, _, _, _, _, _, h⟩ := State.raiseAll_eq rs s; rw [h]
@[simp] theorem State.raiseAll_target (rs : List Request) : (s.raiseAll rs).target = s.target := by
  obtain ⟨_, _, _, _, _, _, _, _, _, h⟩ := State.raiseAll_eq rs s; rw [h]
@[simp] theorem State.raiseAll_counter (rs : List Request) : (s.raiseAll rs).counter = s.counter := by
  obtain ⟨_, _, _, _, _, _, _, _, _, h⟩ := State.raiseAll_eq rs s; rw [h]
@[simp] theorem State.raiseAll_buzzer (rs : List Request) : (s.raiseAll rs).buzzer = s.buzzer := by
  obtain ⟨_, _, _, _, _, _, _, _, _, h⟩ := State.raiseAll_eq rs s; rw [h]
@[simp] theorem State.raiseAll_motor (rs : List Request) : (s.raiseAll rs).motor = s.motor := by
  obtain ⟨_, _, _, _, _, _, _, _, _, h⟩ := State.raiseAll_eq rs s; rw [h]
@[simp] theorem State.raiseAll_frame (rs : List Request) : (s.raiseAll rs).frame = s.frame := by
  obtain ⟨_, _, _, _, _, _, _, _, _, h⟩ := State.raiseAll_eq rs s; rw [h]
@[simp] theorem State.raiseAll_seq (rs : List Request) : (s.raiseAll rs).seq = s.seq := by
  obtain ⟨_, _, _, _, _, _, _, _, _, h⟩ := State.raiseAll_eq rs s; rw [h]
@[simp] theorem State.raiseAll_cursor (rs : List Request) : (s.raiseAll rs).cursor = s.cursor := by
  obtain ⟨_, _, _, _, _, _, _, _, _, h⟩ := State.raiseAll_eq rs s; rw [h]
@[simp] theorem State.raiseAll_flt (rs : List Request) : (s.raiseAll rs).flt = s.flt := by
  obtain ⟨_, _, _, _, _, _, _, _, _, h⟩ := State.raiseAll_eq rs s; rw [h]
@[simp] theorem State.raiseAll_xData (rs : List Request) : (s.raiseAll rs).xData = s.xData := by
  obtain ⟨_, _, _, _, _, _, _, _, _, h⟩ := State.raiseAll_eq rs s; rw [h]
@[simp] theorem State.raiseAll_xValid (rs : List Request) : (s.raiseAll rs).xValid = s.xValid := by
  obtain ⟨_, _, _, _, _, _, _, _, _, h⟩ := State.raiseAll_eq rs s; rw [h]
@[simp] theorem State.raiseAll_qData (rs : List Request) : (s.raiseAll rs).qData = s.qData := by
  obtain ⟨_, _, _, _, _, _, _, _, _, h⟩ := State.raiseAll_eq rs s; rw [h]
@[simp] theorem State.raiseAll_qValid (rs : List Request) : (s.raiseAll rs).qValid = s.qValid := by
  obtain ⟨_, _, _, _, _, _, _, _, _, h⟩ := State.raiseAll_eq rs s; rw [h]
@[simp] theorem State.raiseAll_env (rs : List Request) : (s.raiseAll rs).env = s.env := by
  obtain ⟨_, _, _, _, _, _, _, _, _, h⟩ := State.raiseAll_eq rs s; rw [h]
@[simp] theorem State.raiseAll_draws (rs : List Request) : (s.raiseAll rs).draws = s.draws := by
  obtain ⟨_, _, _, _, _, _, _, _, _, h⟩ := State.raiseAll_eq rs s; rw [h]

@[simp] theorem State.latched_hist : (s.latched).hist = s.hist := by simp [State.latched]
@[simp] theorem State.latched_sum : (s.latched).sum = s.sum := by simp [State.latched]
@[simp] theorem State.latched_idx : (s.latched).idx = s.idx := by simp [State.latched]
@[simp] theorem State.latched_filled : (s.latched).filled = s.filled := by simp [State.latched]
@[simp] theorem State.latched_tempState : (s.latched).tempState = s.tempState := by simp [State.latched]
@[simp] theorem State.latched_gasState : (s.latched).gasState = s.gasState := by simp [State.latched]
@[simp] theorem State.latched_target : (s.latched).target = s.target := by simp [State.latched]
@[simp] theorem State.latched_counter : (s.latched).counter = s.counter := by simp [State.latched]
@[simp] theorem State.latched_buzzer : (s.latched).buzzer = s.buzzer := by simp [State.latched]
@[simp] theorem State.latched_motor : (s.latched).motor = s.motor := by simp [State.latched]
@[simp] theorem State.latched_frame : (s.latched).frame = s.frame := by simp [State.latched]
@[simp] theorem State.latched_seq : (s.latched).seq = s.seq := by simp [State.latched]
@[simp] theorem State.latched_cursor : (s.latched).cursor = s.cursor := by simp [State.latched]
@[simp] theorem State.latched_flt : (s.latched).flt = s.flt := by simp [State.latched]
@[simp] theorem State.latched_xData : (s.latched).xData = s.xData := by simp [State.latched]
@[simp] theorem State.latched_xValid : (s.latched).xValid = s.xValid := by simp [State.latched]
@[simp] theorem State.latched_qData : (s.latched).qData = s.qData := by simp [State.latched]
@[simp] theorem State.latched_qValid : (s.latched).qValid = s.qValid := by simp [State.latched]
@[simp] theorem State.latched_draws : (s.latched).draws = s.draws := by simp [State.latched]

@[simp] theorem State.ingest_tempState (r : Readings) : (s.ingest r).tempState = s.tempState := rfl
@[simp] theorem State.ingest_gasState (r : Readings) : (s.ingest r).gasState = s.gasState := rfl
@[simp] theorem State.ingest_target (r : Readings) : (s.ingest r).target = s.target := rfl
@[simp] theorem State.ingest_counter (r : Readings) : (s.ingest r).counter = s.counter := rfl
@[simp] theorem State.ingest_buzzer (r : Readings) : (s.ingest r).buzzer = s.buzzer := rfl
@[simp] theorem State.ingest_motor (r : Readings) : (s.ingest r).motor = s.motor := rfl
@[simp] theorem State.ingest_frame (r : Readings) : (s.ingest r).frame = s.frame := rfl
@[simp] theorem State.ingest_seq (r : Readings) : (s.ingest r).seq = s.seq := rfl
@[simp] theorem State.ingest_cursor (r : Readings) : (s.ingest r).cursor = s.cursor := rfl
@[simp] theorem State.ingest_pendAcq (r : Readings) : (s.ingest r).pendAcq = s.pendAcq := rfl
@[simp] theorem State.ingest_acqCmd (r : Readings) : (s.ingest r).acqCmd = s.acqCmd := rfl
@[simp] theorem State.ingest_acqData (r : Readings) : (s.ingest r).acqData = s.acqData := rfl
@[simp] theorem State.ingest_pendX (r : Readings) : (s.ingest r).pendX = s.pendX := rfl
@[simp] theorem State.ingest_xCmd (r : Readings) : (s.ingest r).xCmd = s.xCmd := rfl
@[simp] theorem State.ingest_pendTick (r : Readings) : (s.ingest r).pendTick = s.pendTick := rfl
@[simp] theorem State.ingest_tickCmd (r : Readings) : (s.ingest r).tickCmd = s.tickCmd := rfl
@[simp] theorem State.ingest_pendQ (r : Readings) : (s.ingest r).pendQ = s.pendQ := rfl
@[simp] theorem State.ingest_qCmd (r : Readings) : (s.ingest r).qCmd = s.qCmd := rfl
@[simp] theorem State.ingest_flt (r : Readings) : (s.ingest r).flt = s.flt := rfl
@[simp] theorem State.ingest_xData (r : Readings) : (s.ingest r).xData = s.xData := rfl
@[simp] theorem State.ingest_xValid (r : Readings) : (s.ingest r).xValid = s.xValid := rfl
@[simp] theorem State.ingest_qData (r : Readings) : (s.ingest r).qData = s.qData := rfl
@[simp] theorem State.ingest_qValid (r : Readings) : (s.ingest r).qValid = s.qValid := rfl
@[simp] theorem State.ingest_env (r : Readings) : (s.ingest r).env = s.env := rfl
@[simp] theorem State.ingest_draws (r : Readings) : (s.ingest r).draws = s.draws := rfl

@[simp] theorem State.setTarget_hist (l : RiskLevel) : (s.setTarget l).hist = s.hist := by rw [State.setTarget_eq]; rfl
@[simp] theorem State.setTarget_sum (l : RiskLevel) : (s.setTarget l).sum = s.sum := by rw [State.setTarget_eq]; rfl
@[simp] theorem State.setTarget_idx (l : RiskLevel) : (s.setTarget l).idx = s.idx := by rw [State.setTarget_eq]; rfl
@[simp] theorem State.setTarget_filled (l : RiskLevel) : (s.setTarget l).filled = s.filled := by rw [State.setTarget_eq]; rfl
@[simp] theorem State.setTarget_tempState (l : RiskLevel) : (s.setTarget l).tempState = s.tempState := by rw [State.setTarget_eq]; rfl
@[simp] theorem State.setTarget_gasState (l : RiskLevel) : (s.setTarget l).gasState = s.gasState := by rw [State.setTarget_eq]; rfl
@[simp] theorem State.setTarget_buzzer (l : RiskLevel) : (s.setTarget l).buzzer = s.buzzer := by rw [State.setTarget_eq]; rfl
@[simp] theorem State.setTarget_motor (l : RiskLevel) : (s.setTarget l).motor = s.motor := by rw [State.setTarget_eq]; rfl
@[simp] theorem State.setTarget_frame (l : RiskLevel) : (s.setTarget l).frame = s.frame := by rw [State.setTarget_eq]; rfl
@[simp] theorem State.setTarget_seq (l : RiskLevel) : (s.setTarget l).seq = s.seq := by rw [State.setTarget_eq]; rfl
@[simp] theorem State.setTarget_cursor (l : RiskLevel) : (s.setTarget l).cursor = s.cursor := by rw [State.setTarget_eq]; rfl
@[simp] theorem State.setTarget_pendAcq (l : RiskLevel) : (s.setTarget l).pendAcq = s.pendAcq := by rw [State.setTarget_eq]; rfl
@[simp] theorem State.setTarget_acqCmd (l : RiskLevel) : (s.setTarget l).acqCmd = s.acqCmd := by rw [State.setTarget_eq]; rfl
@[simp] theorem State.setTarget_acqData (l : RiskLevel) : (s.setTarget l).acqData = s.acqData := by rw [State.setTarget_eq]; rfl
@[simp] theorem State.setTarget_pendX (l : RiskLevel) : (s.setTarget l).pendX = s.pendX := by rw [State.setTarget_eq]; rfl
@[simp] theorem State.setTarget_xCmd (l : RiskLevel) : (s.setTarget l).xCmd = s.xCmd := by rw [State.setTarget_eq]; rfl
@[simp] theorem State.setTarget_pendTick (l : RiskLevel) : (s.setTarget l).pendTick = s.pendTick := by rw [State.setTarget_eq]; rfl
@[simp] theorem State.setTarget_tickCmd (l : RiskLevel) : (s.setTarget l).tickCmd = s.tickCmd := by rw [State.setTarget_eq]; rfl
@[simp] theorem State.setTarget_pendQ (l : RiskLevel) : (s.setTarget l).pendQ = s.pendQ := by rw [State.setTarget_eq]; rfl
@[simp] theorem State.setTarget_qCmd (l : RiskLevel) : (s.setTarget l).qCmd = s.qCmd := by rw [State.setTarget_eq]; rfl
@[simp] theorem State.setTarget_flt (l : RiskLevel) : (s.setTarget l).flt = s.flt := by rw [State.setTarget_eq]; rfl
@[simp] theorem State.setTarget_xData (l : RiskLevel) : (s.setTarget l).xData = s.xData := by rw [State.setTarget_eq]; rfl
@[simp] theorem State.setTarget_xValid (l : RiskLevel) : (s.setTarget l).xValid = s.xValid := by rw [State.setTarget_eq]; rfl
@[simp] theorem State.setTarget_qData (l : RiskLevel) : (s.setTarget l).qData = s.qData := by rw [State.setTarget_eq]; rfl
@[simp] theorem State.setTarget_qValid (l : RiskLevel) : (s.setTarget l).qValid = s.qValid := by rw [State.setTarget_eq]; rfl
@[simp] theorem State.setTarget_env (l : RiskLevel) : (s.setTarget l).env = s.env := by rw [State.setTarget_eq]; rfl
@[simp] theorem State.setTarget_draws (l : RiskLevel) : (s.setTarget l).draws = s.draws := by rw [State.setTarget_eq]; rfl

@[simp] theorem State.tickOutputs_hist : (s.tickOutputs cfg).hist = s.hist := by
  obtain ⟨_, _, _, h⟩ := State.tickOutputs_eq s cfg; rw [h]
@[simp] theorem State.tickOutputs_sum : (s.tickOutputs cfg).sum = s.sum := by
  obtain ⟨_, _, _, h⟩ := State.tickOutputs_eq s cfg; rw [h]
@[simp] theorem State.tickOutputs_idx : (s.tickOutputs cfg).idx = s.idx := by
  obtain ⟨_, _, _, h⟩ := State.tickOutputs_eq s cfg; rw [h]
@[simp] theorem State.tickOutputs_filled : (s.tickOutputs cfg).filled = s.filled := by
  obtain ⟨_, _, _, h⟩ := State.tickOutputs_eq s cfg; rw [h]
@[simp] theorem State.tickOutputs_tempState : (s.tickOutputs cfg).tempState = s.tempState := by
  obtain ⟨_, _, _, h⟩ := State.tickOutputs_eq s cfg; rw [h]
@[simp] theorem State.tickOutputs_gasState : (s.tickOutputs cfg).gasState = s.gasState := by
  obtain ⟨_, _, _, h⟩ := State.tickOutputs_eq s cfg; rw [h]
@[simp] theorem State.tickOutputs_target : (s.tickOutputs cfg).target = s.target := by
  obtain ⟨_, _, _, h⟩ := State.tickOutputs_eq s cfg; rw [h]
@[simp] theorem State.tickOutputs_frame : (s.tickOutputs cfg).frame = s.frame := by
  obtain ⟨_, _, _, h⟩ := State.tickOutputs_eq s cfg; rw [h]
@[simp] theorem State.tickOutputs_seq : (s.tickOutputs cfg).seq = s.seq := by
  obtain ⟨_, _, _, h⟩ := State.tickOutputs_eq s cfg; rw [h]
@[simp] theorem State.tickOutputs_cursor : (s.tickOutputs cfg).cursor = s.cursor := by
  obtain ⟨_, _, _, h⟩ := State.tickOutputs_eq s cfg; rw [h]
@[simp] theorem State.tickOutputs_pendAcq : (s.tickOutputs cfg).pendAcq = s.pendAcq := by
  obtain ⟨_, _, _, h⟩ := State.tickOutputs_eq s cfg; rw [h]
@[simp] theorem State.tickOutputs_acqCmd : (s.tickOutputs cfg).acqCmd = s.acqCmd := by
  obtain ⟨_, _, _, h⟩ := State.tickOutputs_eq s cfg; rw [h]
@[simp] theorem State.tickOutputs_acqData : (s.tickOutputs cfg).acqData = s.acqData := by
  obtain ⟨_, _, _, h⟩ := State.tickOutputs_eq s cfg; rw [h]
@[simp] theorem State.tickOutputs_pendX : (s.tickOutputs cfg).pendX = s.pendX := by
  obtain ⟨_, _, _, h⟩ := State.tickOutputs_eq s cfg; rw [h]
@[simp] theorem State.tickOutputs_xCmd : (s.tickOutputs cfg).xCmd = s.xCmd := by
  obtain ⟨_, _, _, h⟩ := State.tickOutputs_eq s cfg; rw [h]
@[simp] theorem State.tickOutputs_pendTick : (s.tickOutputs cfg).pendTick = s.pendTick := by
  obtain ⟨_, _, _, h⟩ := State.tickOutputs_eq s cfg; rw [h]
@[simp] theorem State.tickOutputs_tickCmd : (s.tickOutputs cfg).tickCmd = s.tickCmd := by
  obtain ⟨_, _, _, h⟩ := State.tickOutputs_eq s cfg; rw [h]
@[simp] theorem State.tickOutputs_pendQ : (s.tickOutputs cfg).pendQ = s.pendQ := by
  obtain ⟨_, _, _, h⟩ := State.tickOutputs_eq s cfg; rw [h]
@[simp] theorem State.tickOutputs_qCmd : (s.tickOutputs cfg).qCmd = s.qCmd := by
  obtain ⟨_, _, _, h⟩ := State.tickOutputs_eq s cfg; rw [h]
@[simp] theorem State.tickOutputs_flt : (s.tickOutputs cfg).flt = s.flt := by
  obtain ⟨_, _, _, h⟩ := State.tickOutputs_eq s cfg; rw [h]
@[simp] theorem State.tickOutputs_xData : (s.tickOutputs cfg).xData = s.xData := by
  obtain ⟨_, _, _, h⟩ := State.tickOutputs_eq s cfg; rw [h]
@[simp] theorem State.tickOutputs_xValid : (s.tickOutputs cfg).xValid = s.xValid := by
  obtain ⟨_, _, _, h⟩ := State.tickOutputs_eq s cfg; rw [h]
@[simp] theorem State.tickOutputs_qData : (s.tickOutputs cfg).qData = s.qData := by
  obtain ⟨_, _, _, h⟩ := State.tickOutputs_eq s cfg; rw [h]
@[simp] theorem State.tickOutputs_qValid : (s.tickOutputs cfg).qValid = s.qValid := by
  obtain ⟨_, _, _, h⟩ := State.tickOutputs_eq s cfg; rw [h]
@[simp] theorem State.tickOutputs_env : (s.tickOutputs cfg).env = s.env := by
  obtain ⟨_, _, _, h⟩ := State.tickOutputs_eq s cfg; rw [h]
@[simp] theorem State.tickOutputs_draws : (s.tickOutputs cfg).draws = s.draws := by
  obtain ⟨_, _, _, h⟩ := State.tickOutputs_eq s cfg; rw [h]

@[simp] theorem State.acquireDecide_buzzer (r : Readings) : (s.acquireDecide cfg r).buzzer = s.buzzer := by
  obtain ⟨_, _, _, -, -, -, h⟩ := State.acquireDecide_eq s cfg r; rw [h]; rfl
@[simp] theorem State.acquireDecide_motor (r : Readings) : (s.acquireDecide cfg r).motor = s.motor := by
  obtain ⟨_, _, _, -, -, -, h⟩ := State.acquireDecide_eq s cfg r; rw [h]; rfl
@[simp] theorem State.acquireDecide_frame (r : Readings) : (s.acquireDecide cfg r).frame = s.frame := by
  obtain ⟨_, _, _, -, -, -, h⟩ := State.acquireDecide_eq s cfg r; rw [h]; rfl
@[simp] theorem State.acquireDecide_seq (r : Readings) : (s.acquireDecide cfg r).seq = s.seq := by
  obtain ⟨_, _, _, -, -, -, h⟩ := State.acquireDecide_eq s cfg r; rw [h]; rfl
@[simp] theorem State.acquireDecide_cursor (r : Readings) : (s.acquireDecide cfg r).cursor = s.cursor := by
  obtain ⟨_, _, _, -, -, -, h⟩ := State.acquireDecide_eq s cfg r; rw [h]; rfl
@[simp] theorem State.acquireDecide_pendAcq (r : Readings) : (s.acquireDecide cfg r).pendAcq = s.pendAcq := by
  obtain ⟨_, _, _, -, -, -, h⟩ := State.acquireDecide_eq s cfg r; rw [h]; rfl
@[simp] theorem State.acquireDecide_acqCmd (r : Readings) : (s.acquireDecide cfg r).acqCmd = s.acqCmd := by
  obtain ⟨_, _, _, -, -, -, h⟩ := State.acquireDecide_eq s cfg r; rw [h]; rfl
@[simp] theorem State.acquireDecide_acqData (r : Readings) : (s.acquireDecide cfg r).acqData = s.acqData := by
  obtain ⟨_, _, _, -, -, -, h⟩ := State.acquireDecide_eq s cfg r; rw [h]; rfl
@[simp] theorem State.acquireDecide_pendX (r : Readings) : (s.acquireDecide cfg r).pendX = s.pendX := by
  obtain ⟨_, _, _, -, -, -, h⟩ := State.acquireDecide_eq s cfg r; rw [h]; rfl
@[simp] theorem State.acquireDecide_xCmd (r : Readings) : (s.acquireDecide cfg r).xCmd = s.xCmd := by
  obtain ⟨_, _, _, -, -, -, h⟩ := State.acquireDecide_eq s cfg r; rw [h]; rfl
@[simp] theorem State.acquireDecide_pendTick (r : Readings) : (s.acquireDecide cfg r).pendTick = s.pendTick := by
  obtain ⟨_, _, _, -, -, -, h⟩ := State.acquireDecide_eq s cfg r; rw [h]; rfl
@[simp] theorem State.acquireDecide_tickCmd (r : Readings) : (s.acquireDecide cfg r).tickCmd = s.tickCmd := by
  obtain ⟨_, _, _, -, -, -, h⟩ := State.acquireDecide_eq s cfg r; rw [h]; rfl
@[simp] theorem State.acquireDecide_pendQ (r : Readings) : (s.acquireDecide cfg r).pendQ = s.pendQ := by
  obtain ⟨_, _, _, -, -, -, h⟩ := State.acquireDecide_eq s cfg r; rw [h]; rfl
@[simp] theorem State.acquireDecide_qCmd (r : Readings) : (s.acquireDecide cfg r).qCmd = s.qCmd := by
  obtain ⟨_, _, _, -, -, -, h⟩ := State.acquireDecide_eq s cfg r; rw [h]; rfl
@[simp] theorem State.acquireDecide_flt (r : Readings) : (s.acquireDecide cfg r).flt = s.flt := by
  obtain ⟨_, _, _, -, -, -, h⟩ := State.acquireDecide_eq s cfg r; rw [h]; rfl
@[simp] theorem State.acquireDecide_xData (r : Readings) : (s.acquireDecide cfg r).xData = s.xData := by
  obtain ⟨_, _, _, -, -, -, h⟩ := State.acquireDecide_eq s cfg r; rw [h]; rfl
@[simp] theorem State.acquireDecide_xValid (r : Readings) : (s.acquireDecide cfg r).xValid = s.xValid := by
  obtain ⟨_, _, _, -, -, -, h⟩ := State.acquireDecide_eq s cfg r; rw [h]; rfl
@[simp] theorem State.acquireDecide_qData (r : Readings) : (s.acquireDecide cfg r).qData = s.qData := by
  obtain ⟨_, _, _, -, -, -, h⟩ := State.acquireDecide_eq s cfg r; rw [h]; rfl
@[simp] theorem State.acquireDecide_qValid (r : Readings) : (s.acquireDecide cfg r).qValid = s.qValid := by
  obtain ⟨_, _, _, -, -, -, h⟩ := State.acquireDecide_eq s cfg r; rw [h]; rfl
@[simp] theorem State.acquireDecide_env (r : Readings) : (s.acquireDecide cfg r).env = s.env := by
  obtain ⟨_, _, _, -, -, -, h⟩ := State.acquireDecide_eq s cfg r; rw [h]; rfl
@[simp] theorem State.acquireDecide_draws (r : Readings) : (s.acquireDecide cfg r).draws = s.draws := by
  obtain ⟨_, _, _, -, -, -, h⟩ := State.acquireDecide_eq s cfg r; rw [h]; rfl

@[simp] theorem State.acquireCycle_buzzer (r : Readings) : (s.acquireCycle cfg r).buzzer = s.buzzer := by
  rw [State.acquireCycle_eq]; simp
@[simp] theorem State.acquireCycle_motor (r : Readings) : (s.acquireCycle cfg r).motor = s.motor := by
  rw [State.acquireCycle_eq]; simp
@[simp] theorem State.acquireCycle_pendAcq (r : Readings) : (s.acquireCycle cfg r).pendAcq = s.pendAcq := by
  rw [State.acquireCycle_eq]; simp
@[simp] theorem State.acquireCycle_acqCmd (r : Readings) : (s.acquireCycle cfg r).acqCmd = s.acqCmd := by
  rw [State.acquireCycle_eq]; simp
@[simp] theorem State.acquireCycle_acqData (r : Readings) : (s.acquireCycle cfg r).acqData = s.acqData := by
  rw [State.acquireCycle_eq]; simp
@[simp] theorem State.acquireCycle_pendX (r : Readings) : (s.acquireCycle cfg r).pendX = s.pendX := by
  rw [State.acquireCycle_eq]; simp
@[simp] theorem State.acquireCycle_xCmd (r : Readings) : (s.acquireCycle cfg r).xCmd = s.xCmd := by
  rw [State.acquireCycle_eq]; simp
@[simp] theorem State.acquireCycle_pendTick (r : Readings) : (s.acquireCycle cfg r).pendTick = s.pendTick := by
  rw [State.acquireCycle_eq]; simp
@[simp] theorem State.acquireCycle_tickCmd (r : Readings) : (s.acquireCycle cfg r).tickCmd = s.tickCmd := by
  rw [State.acquireCycle_eq]; simp
@[simp] theorem State.acquireCycle_pendQ (r : Readings) : (s.acquireCycle cfg r).pendQ = s.pendQ := by
  rw [State.acquireCycle_eq]; simp
@[simp] theorem State.acquireCycle_qCmd (r : Readings) : (s.acquireCycle cfg r).qCmd = s.qCmd := by
  rw [State.acquireCycle_eq]; simp
@[simp] theorem State.acquireCycle_flt (r : Readings) : (s.acquireCycle cfg r).flt = s.flt := by
  rw [State.acquireCycle_eq]; simp
@[simp] theorem State.acquireCycle_xData (r : Readings) : (s.acquireCycle cfg r).xData = s.xData := by
  rw [State.acquireCycle_eq]; simp
@[simp] theorem State.acquireCycle_xValid (r : Readings) : (s.acquireCycle cfg r).xValid = s.xValid := by
  rw [State.acquireCycle_eq]; simp
@[simp] theorem State.acquireCycle_qData (r : Readings) : (s.acquireCycle cfg r).qData = s.qData := by
  rw [State.acquireCycle_eq]; simp
@[simp] theorem State.acquireCycle_qValid (r : Readings) : (s.acquireCycle cfg r).qValid = s.qValid := by
  rw [State.acquireCycle_eq]; simp
@[simp] theorem State.acquireCycle_env (r : Readings) : (s.acquireCycle cfg r).env = s.env := by
  rw [State.acquireCycle_eq]; simp
@[simp] theorem State.acquireCycle_draws (r : Readings) : (s.acquireCycle cfg r).draws = s.draws := by
  rw [State.acquireCycle_eq]; simp

@[simp] theorem State.acquireCycle_hist (r : Readings) :
    (s.acquireCycle cfg r).hist = (s.acquireDecide cfg r).hist := by rw [State.acquireCycle_eq]; simp
@[simp] theorem State.acquireCycle_sum (r : Readings) :
    (s.acquireCycle cfg r).sum = (s.acquireDecide cfg r).sum := by rw [State.acquireCycle_eq]; simp
@[simp] theorem State.acquireCycle_idx (r : Readings) :
    (s.acquireCycle cfg r).idx = (s.acquireDecide cfg r).idx := by rw [State.acquireCycle_eq]; simp
@[simp] theorem State.acquireCycle_filled (r : Readings) :
    (s.acquireCycle cfg r).filled = (s.acquireDecide cfg r).filled := by rw [State.acquireCycle_eq]; simp
@[simp] theorem State.acquireCycle_tempState (r : Readings) :
    (s.acquireCycle cfg r).tempState = (s.acquireDecide cfg r).tempState := by rw [State.acquireCycle_eq]; simp
@[simp] theorem State.acquireCycle_gasState (r : Readings) :
    (s.acquireCycle cfg r).gasState = (s.acquireDecide cfg r).gasState := by rw [State.acquireCycle_eq]; simp
@[simp] theorem State.acquireCycle_target (r : Readings) :
    (s.acquireCycle cfg r).target = (s.acquireDecide cfg r).target := by rw [State.acquireCycle_eq]; simp
@[simp] theorem State.acquireCycle_counter (r : Readings) :
    (s.acquireCycle cfg r).counter = (s.acquireDecide cfg r).counter := by rw [State.acquireCycle_eq]; simp
@[simp] theorem State.acquireDecide_hist (r : Readings) :
    (s.acquireDecide cfg r).hist = (s.ingest r).hist := by
  obtain ⟨_, _, _, -, -, -, h⟩ := State.acquireDecide_eq s cfg r; rw [h]; rfl
@[simp] theorem State.acquireDecide_sum (r : Readings) :
    (s.acquireDecide cfg r).sum = (s.ingest r).sum := by
  obtain ⟨_, _, _, -, -, -, h⟩ := State.acquireDecide_eq s cfg r; rw [h]; rfl
@[simp] theorem State.acquireDecide_idx (r : Readings) :
    (s.acquireDecide cfg r).idx = (s.ingest r).idx := by
  obtain ⟨_, _, _, -, -, -, h⟩ := State.acquireDecide_eq s cfg r; rw [h]; rfl
@[simp] theorem State.acquireDecide_filled (r : Readings) :
    (s.acquireDecide cfg r).filled = (s.ingest r).filled := by
  obtain ⟨_, _, _, -, -, -, h⟩ := State.acquireDecide_eq s cfg r; rw [h]; rfl

/-! ### What ACQUIRE writes, field by field (R230) -/

theorem State.acquireDecide_tempState (r : Readings) :
    (s.acquireDecide cfg r).tempState = riskStep s.tempState ((s.ingest r).tempInput cfg) cfg.thTemp := by
  obtain ⟨_, _, _, ha, -, -, h⟩ := State.acquireDecide_eq s cfg r; rw [h]; exact ha

theorem State.acquireDecide_gasState (r : Readings) :
    (s.acquireDecide cfg r).gasState = riskStep s.gasState ((s.ingest r).gasInput cfg) cfg.thGas := by
  obtain ⟨_, _, _, -, hb, -, h⟩ := State.acquireDecide_eq s cfg r; rw [h]; exact hb

theorem State.acquireDecide_target (r : Readings) :
    (s.acquireDecide cfg r).target = (s.acquireDecide cfg r).tempState.max (s.acquireDecide cfg r).gasState := by
  obtain ⟨_, _, _, -, -, -, h⟩ := State.acquireDecide_eq s cfg r; rw [h]; rfl

theorem State.acquireDecide_counter (r : Readings) :
    (s.acquireDecide cfg r).counter = if (s.acquireDecide cfg r).target = s.target then s.counter else 0 := by
  obtain ⟨_, _, _, -, -, hn, h⟩ := State.acquireDecide_eq s cfg r; rw [h]; exact hn

@[simp] theorem State.acquireCycle_seq (r : Readings) : (s.acquireCycle cfg r).seq = s.seq + 1 := by
  rw [State.acquireCycle_eq]; simp

@[simp] theorem State.acquireCycle_cursor (r : Readings) : (s.acquireCycle cfg r).cursor = 0 := by
  rw [State.acquireCycle_eq]; simp

theorem State.acquireCycle_frame (r : Readings) :
    (s.acquireCycle cfg r).frame =
      Memory.ofBytes (frameBytes cfg s.seq (s.acquireDecide cfg r).statusByte (s.ingest r).filtered
        ((s.ingest r).metric cfg)) := by
  have hf : (s.acquireDecide cfg r).filtered = (s.ingest r).filtered :=
    State.filtered_congr (State.acquireDecide_sum s cfg r) (State.acquireDecide_idx s cfg r)
      (State.acquireDecide_filled s cfg r)
  have hm : (s.acquireDecide cfg r).metric cfg = (s.ingest r).metric cfg :=
    State.metric_congr cfg (State.acquireDecide_sum s cfg r) (State.acquireDecide_idx s cfg r)
      (State.acquireDecide_filled s cfg r)
  rw [State.acquireCycle_eq]
  simp [hf, hm]

/-- After ACQUIRE, a frame byte is the build buffer's (R200, R202). -/
theorem State.acquireCycle_frameByte (r : Readings) (a : Offset) :
    (s.acquireCycle cfg r).frameByte a =
      (frameBytes cfg s.seq (s.acquireDecide cfg r).statusByte (s.ingest r).filtered
        ((s.ingest r).metric cfg))[a.toNat]'(by have := a.isLt; simp; omega) := by
  unfold State.frameByte
  rw [State.acquireCycle_frame]
  exact Memory.read_ofBytes _ rfl a

/-! ### What TICK writes (R172) -/

theorem State.tickOutputs_normal {s : State} (h : s.target = .normal) :
    s.tickOutputs cfg = s.withOutputs 0 false false := by simp [State.tickOutputs, h]

theorem State.tickOutputs_warning {s : State} (h : s.target = .warning) :
    s.tickOutputs cfg = s.patternTick cfg.onMsWarn cfg.offMsWarn false := by simp [State.tickOutputs, h]

theorem State.tickOutputs_alarm {s : State} (h : s.target = .alarm) :
    s.tickOutputs cfg = s.patternTick cfg.onMsAlarm cfg.offMsAlarm true := by simp [State.tickOutputs, h]

/-! ### The status byte, bit by bit (R231) -/

theorem State.statusByte_bit0 : s.statusByte.getLsbD 0 = s.buzzer := by
  unfold State.statusByte; cases s.buzzer <;> cases s.motor <;> cases s.tempState <;> cases s.gasState <;> rfl

theorem State.statusByte_bit1 : s.statusByte.getLsbD 1 = s.motor := by
  unfold State.statusByte; cases s.buzzer <;> cases s.motor <;> cases s.tempState <;> cases s.gasState <;> rfl

theorem State.statusByte_bit2 : s.statusByte.getLsbD 2 = decide (s.gasState ≠ .normal) := by
  unfold State.statusByte; cases s.buzzer <;> cases s.motor <;> cases s.tempState <;> cases s.gasState <;> rfl

theorem State.statusByte_bit3 : s.statusByte.getLsbD 3 = decide (s.tempState ≠ .normal) := by
  unfold State.statusByte; cases s.buzzer <;> cases s.motor <;> cases s.tempState <;> cases s.gasState <;> rfl

theorem State.statusByte_reserved : s.statusByte.extractLsb' 4 4 = 0 := by
  unfold State.statusByte; cases s.buzzer <;> cases s.motor <;> cases s.tempState <;> cases s.gasState <;> rfl

end Sys2Proof.Machine
end

