-- ==== Sys2Proof/Laws/PerInstr.lean ====
section
/-! SUPPORT. A fact about every command as syntax, one lemma for each: its word, on its port, decodes to it. -/

namespace Sys2Proof.Laws.RoundTrip

/-- The word of the command decodes, on the command's port, to the command (R94, R98). -/
def Statement (i : Instr) : Prop := decode (encode i).1 (encode i).2 = .command i

theorem acquire : Statement .acquire := by unfold Statement; decide
theorem tick : Statement .tick := by unfold Statement; decide
theorem drain : Statement .drain := by unfold Statement; decide
theorem resetCursor : Statement .resetCursor := by unfold Statement; decide
theorem rdFrame (i : BitVec 4) : Statement (.rdFrame i) := by unfold Statement; revert i; decide
theorem rdFiltered (c : BitVec 4) : Statement (.rdFiltered c) := by unfold Statement; revert c; decide
theorem rdMetric : Statement .rdMetric := by unfold Statement; decide
theorem rdRiskTemp : Statement .rdRiskTemp := by unfold Statement; decide
theorem rdRiskGas : Statement .rdRiskGas := by unfold Statement; decide
theorem rdRiskComb : Statement .rdRiskComb := by unfold Statement; decide
theorem rdBuzzer : Statement .rdBuzzer := by unfold Statement; decide
theorem rdMotor : Statement .rdMotor := by unfold Statement; decide
theorem rdFault : Statement .rdFault := by unfold Statement; decide

end Sys2Proof.Laws.RoundTrip
end

