-- ==== Sys2Proof/Laws/Reset.lean ====
section
/-! SUPPORT. What RESET leaves, said once. -/

namespace Sys2Proof.Machine

/-- The frame INIT_ZERO_FRAME builds with seq 0 is what unlisted offsets read as: it lists nothing (R203). -/
theorem zeroFrame_canonical : Memory.ofBytes (frameBytes Config.params 0#8 0#8 (fun _ => 0#16) 0#16) = [] := rfl

/-- RESET leaves the reset state (R291, R292), but for what the spec leaves unspecified (the cleared latches' contents and
the data outputs), the inputs to come and the free-value index. -/
theorem State.takeReset_eq (s : State) :
    ∃ ca da cx ct cq x q n,
      s.takeReset = { State.reset with
        acqCmd := ca, acqData := da, xCmd := cx, tickCmd := ct, qCmd := cq, xData := x, qData := q,
        env := s.env, draws := n } := by
  refine ⟨Config.anyByte s.draws, Config.anyReadings s.draws, Config.anyByte (s.draws + 1),
    Config.anyByte (s.draws + 1 + 1), Config.anyByte (s.draws + 1 + 1 + 1),
    Config.anyByte (s.draws + 1 + 1 + 1 + 1), Config.anyHalf (s.draws + 1 + 1 + 1 + 1 + 1),
    s.draws + 1 + 1 + 1 + 1 + 1 + 1, ?_⟩
  apply State.ext <;> simp [State.takeReset, State.resetSequence, State.clearLatches, State.clearOutputs,
    State.initZeroFrame, State.build, State.publish, State.filterReset, State.clearLatch, State.returnNoValue, State.returnNothing,
    zeroFrame_canonical, State.reset, perChannel]

end Sys2Proof.Machine
end

