-- ==== Sys2Proof/Laws/Step.lean ====
section
/-! SUPPORT. What a command and a step can do, said once. -/

namespace Sys2Proof.Machine

/-- Every command answers a next state: no meaning of this block faults or refuses. -/
theorem exec_next (i : Instr) (s : State) : ∃ t, exec i s = .next t := by cases i <;> exact ⟨_, rfl⟩

/-- Latching the inputs touches the latches and the schedule only (R258). -/
theorem State.latched_eq (s : State) :
    ∃ pa ca da px cx pt ct pq cq,
      s.latched = { s with env := s.env.tail, pendAcq := pa, acqCmd := ca, acqData := da, pendX := px, xCmd := cx,
                           pendTick := pt, tickCmd := ct, pendQ := pq, qCmd := cq } := by
  obtain ⟨_, _, _, _, _, _, _, _, _, h⟩ := State.raiseAll_eq s.inputs.requests (s.withEnv s.env.tail)
  exact ⟨_, _, _, _, _, _, _, _, _, h⟩

/-- What the next step serves where RESET is low, a latch is set and its word is a command (R259). -/
theorem State.nextService_command {s : State} {p : Port} {i : Instr} (hr : s.inputs.reset = false)
    (hp : s.latched.nextPort = some p) (hd : decode p (s.latched.command p) = .command i) :
    s.nextService = .run p i s.latched := by
  simp only [State.nextService, hr, State.arbitrate, hp, hd, Bool.false_eq_true, if_false]

/-- What the next step serves where RESET is low, a latch is set and its word is illegal (R96). -/
theorem State.nextService_illegal {s : State} {p : Port} {why : Illegal} (hr : s.inputs.reset = false)
    (hp : s.latched.nextPort = some p) (hd : decode p (s.latched.command p) = .illegal why) :
    s.nextService = .illegal p s.latched := by
  simp only [State.nextService, hr, State.arbitrate, hp, hd, Bool.false_eq_true, if_false]

/-- The four things a step can be: RESET, idling, an illegal word, a command. -/
theorem step_cases {s t : State} (h : step s = .next t) :
    (s.inputs.reset = true ∧ t = (s.withEnv s.env.tail).takeReset) ∨
    (s.inputs.reset = false ∧ s.latched.nextPort = none ∧ t = s.latched) ∨
    (∃ p why, s.inputs.reset = false ∧ s.latched.nextPort = some p ∧
      decode p (s.latched.command p) = .illegal why ∧ t = (s.latched.serveIllegal p).clearLatch p) ∨
    (∃ p i u, s.inputs.reset = false ∧ s.latched.nextPort = some p ∧
      decode p (s.latched.command p) = .command i ∧ exec i s.latched = .next u ∧ t = u.clearLatch p) := by
  cases hr : s.inputs.reset
  · cases hp : s.latched.nextPort with
    | none =>
      simp only [step, State.nextService, hr, State.arbitrate, hp] at h
      cases h; exact .inr (.inl ⟨rfl, rfl, rfl⟩)
    | some p =>
      cases hd : decode p (s.latched.command p) with
      | illegal why =>
        simp only [step, State.nextService, hr, State.arbitrate, hp, hd, complete] at h
        cases h; exact .inr (.inr (.inl ⟨p, why, rfl, rfl, hd, rfl⟩))
      | command i =>
        obtain ⟨u, hu⟩ := exec_next i s.latched
        simp only [step, State.nextService, hr, State.arbitrate, hp, hd, Bool.false_eq_true, if_false] at h
        rw [hu] at h
        cases h; exact .inr (.inr (.inr ⟨p, i, u, rfl, rfl, hd, hu, rfl⟩))
  · simp only [step, State.nextService, hr] at h
    cases h; exact .inl ⟨rfl, rfl⟩

/-- A command that touches no unit: only the data outputs and, where it raises CHANNEL_RANGE, the fault register. -/
def OutputsOnly (s t : State) : Prop :=
  ∃ f x q xv qv n,
    t = { s with flt := f, xData := x, xValid := xv, qData := q, qValid := qv, draws := n } ∧
    (f = s.flt ∨ (s.faulted = false ∧ f = 0b101))

/-- An update of the data outputs alone is one that touches no unit. -/
theorem outputsOnly_of_eq {s t : State} {x q xv qv n}
    (h : t = { s with xData := x, xValid := xv, qData := q, qValid := qv, draws := n }) : OutputsOnly s t :=
  ⟨s.flt, x, q, xv, qv, n, by rw [h], .inl rfl⟩

/-- A command that raises CHANNEL_RANGE touches no unit. -/
theorem outputsOnly_faultOn {s : State} (h : s.faulted = false) : OutputsOnly s (s.faultOn .query .channelRange) := by
  obtain ⟨x, q, n, he⟩ := State.returnNoValue_eq (s.raiseFault .channelRange) .query
  refine ⟨0b101, x, q, false, false, n, ?_, .inr ⟨h, rfl⟩⟩
  rw [State.faultOn, he, State.raiseFault_eq, h]; rfl

/-- A consumed command, whatever its port returns, touches no unit (R253). -/
theorem outputsOnly_consumed (s : State) :
    OutputsOnly s s.returnNothing ∧ OutputsOnly s s.returnAnyX ∧ OutputsOnly s s.returnAnyQ ∧
    (∀ v, OutputsOnly s (s.returnQ v)) ∧ ∀ p, OutputsOnly s (s.returnNoValue p) := by
  refine ⟨outputsOnly_of_eq (State.returnNothing_eq s), outputsOnly_of_eq (State.returnAnyX_eq s),
    outputsOnly_of_eq (State.returnAnyQ_eq s), fun v => outputsOnly_of_eq (State.returnQ_eq s v), fun p => ?_⟩
  obtain ⟨x, q, n, h⟩ := State.returnNoValue_eq s p
  exact outputsOnly_of_eq h

/-- What each command can do: ACQUIRE, TICK, DRAIN and RESET_CURSOR have their effects while the block is not faulted;
everything else, and everything in the Faulted state, touches no unit. -/
theorem exec_cases {i : Instr} {s t : State} (h : exec i s = .next t) :
    (i = .acquire ∧ s.faulted = false ∧ t = (s.acquireCycle Config.params s.acqData).returnNothing) ∨
    (i = .tick ∧ s.faulted = false ∧ t = (s.tickOutputs Config.params).returnNothing) ∨
    (i = .drain ∧ s.faulted = false ∧ t = (s.withCursor (s.cursor + 1)).returnX (s.frameByte s.cursor)) ∨
    (i = .resetCursor ∧ s.faulted = false ∧ t = (s.withCursor 0).returnNoValue .xport) ∨
    OutputsOnly s t := by
  obtain ⟨hN, hX, hQ, hR, hV⟩ := outputsOnly_consumed s
  cases i
  case acquire =>
    rcases State.unlessFaulted_cases h with ⟨hf, rfl⟩ | ⟨-, rfl⟩
    · exact .inl ⟨rfl, hf, rfl⟩
    · exact .inr (.inr (.inr (.inr hN)))
  case tick =>
    rcases State.unlessFaulted_cases h with ⟨hf, rfl⟩ | ⟨-, rfl⟩
    · exact .inr (.inl ⟨rfl, hf, rfl⟩)
    · exact .inr (.inr (.inr (.inr hN)))
  case drain =>
    rcases State.unlessFaulted_cases h with ⟨hf, rfl⟩ | ⟨-, rfl⟩
    · exact .inr (.inr (.inl ⟨rfl, hf, rfl⟩))
    · exact .inr (.inr (.inr (.inr hX)))
  case resetCursor =>
    rcases State.unlessFaulted_cases h with ⟨hf, rfl⟩ | ⟨-, rfl⟩
    · exact .inr (.inr (.inr (.inl ⟨rfl, hf, rfl⟩)))
    · exact .inr (.inr (.inr (.inr (hV .xport))))
  case rdFault => cases h; exact .inr (.inr (.inr (.inr (hR _))))
  case rdFiltered c =>
    refine .inr (.inr (.inr (.inr ?_)))
    rcases State.unlessFaulted_cases h with ⟨hf, rfl⟩ | ⟨-, rfl⟩
    · cases channelOperand c
      · exact outputsOnly_faultOn hf
      · exact hR _
    · exact hQ
  all_goals
    refine .inr (.inr (.inr (.inr ?_)))
    rcases State.unlessFaulted_cases h with ⟨-, rfl⟩ | ⟨-, rfl⟩
    · exact hR _
    · exact hQ

end Sys2Proof.Machine
end

