-- ==== Sys2Proof/Laws/Run.lean ====
section
/-! SUPPORT. A run of the host's machine, one step at a time, and what a block with no latch set makes of one request. -/

namespace Sys2Proof.Machine

/-- A run of no steps ends where it begins. -/
theorem run_zero (s : State) : Host.Core.run core 0 s = .next s := rfl

/-- A run takes its first step, and goes on from there. -/
theorem run_succ {s t : State} (n : Nat) (h : step s = .next t) :
    Host.Core.run core (n + 1) s = Host.Core.run core n t := by
  have := Host.Core.run.eq_2 core s n
  rw [show core.step s = .next t from h] at this
  exact this

/-- No port is to be served exactly where no latch is set (R259, R268). -/
theorem State.nextPort_eq_none {s : State} :
    s.nextPort = none ↔ s.pendAcq = false ∧ s.pendX = false ∧ s.pendTick = false ∧ s.pendQ = false := by
  unfold State.nextPort
  cases s.pendAcq <;> cases s.pendX <;> cases s.pendTick <;> cases s.pendQ <;> simp

/-- One request raised where no latch is set is captured, and its port is the one to serve (R258, R259). -/
theorem State.latched_of_raising {s : State} {r : Request} {rest : List Inputs} (hn : s.nextPort = none)
    (he : s.env = raising r :: rest) :
    s.inputs.reset = false ∧ s.latched = (s.withEnv rest).raise r ∧ s.latched.nextPort = some (portOf r) ∧
    s.latched.command (portOf r) = wordOf r ∧ ∀ w readings, r = .acq w readings → s.latched.acqData = readings := by
  obtain ⟨ha, hx, ht, hq⟩ := State.nextPort_eq_none.1 hn
  have hl : s.latched = (s.withEnv rest).raise r := by
    simp [State.latched, State.inputs, he, raising, State.raiseAll]
  refine ⟨by simp [State.inputs, he, raising], hl, ?_⟩
  rw [hl]
  cases r <;> simp [portOf, wordOf, State.raise, State.nextPort, State.command, ha, hx, ht, hq]

end Sys2Proof.Machine
end

