-- ==== Sys2Proof/Tests/Slice0.lean ====
section
/-! SUPPORT. The model's own tests. Expected values come from the spec: its tables, its examples and the vectors of
95_test_vectors.md (named in each comment). The witnesses at the end meet the hypotheses of the statements in
Certificates/Slice0/Obligations.lean. -/

namespace Sys2Proof.Tests

open Sys2Proof Sys2Proof.Machine

/-! ### Decoding: words written out from R94, every command (95 section 2.6) -/

theorem test_decode_acquire : decode .acq 0b00010000 = .command .acquire := by decide
theorem test_decode_tick : decode .tick 0b00100000 = .command .tick := by decide
theorem test_decode_drain : decode .xport 0b00110000 = .command .drain := by decide
theorem test_decode_reset_cursor : decode .xport 0b01000000 = .command .resetCursor := by decide
theorem test_decode_rd_frame_0 : decode .query 0b01010000 = .command (.rdFrame 0) := by decide
theorem test_decode_rd_frame_15 : decode .query 0b01011111 = .command (.rdFrame 15) := by decide
theorem test_decode_rd_filtered_3 : decode .query 0b01100011 = .command (.rdFiltered 3) := by decide
theorem test_decode_rd_filtered_4 : decode .query 0b01100100 = .command (.rdFiltered 4) := by decide
theorem test_decode_rd_metric : decode .query 0b01110000 = .command .rdMetric := by decide
theorem test_decode_rd_risk_temp : decode .query 0b10000000 = .command .rdRiskTemp := by decide
theorem test_decode_rd_risk_gas : decode .query 0b10000001 = .command .rdRiskGas := by decide
theorem test_decode_rd_risk_comb : decode .query 0b10000010 = .command .rdRiskComb := by decide
theorem test_decode_rd_buzzer : decode .query 0b10010000 = .command .rdBuzzer := by decide
theorem test_decode_rd_motor : decode .query 0b10010001 = .command .rdMotor := by decide
theorem test_decode_rd_fault : decode .query 0b10100000 = .command .rdFault := by decide

/-- 0x10 on QUERY and 0x64 on XPORT: the port is checked before SEL (95 section 2.6). -/
theorem test_decode_wrong_port :
    decode .query 0x10 = .illegal .wrongPort ∧ decode .xport 0x64 = .illegal .wrongPort := by decide

/-- 0x11 on ACQ, 0x83, 0x92 and 0xA1 on QUERY (95 section 2.6). -/
theorem test_decode_illegal_sel :
    decode .acq 0x11 = .illegal .illegalSel ∧ decode .query 0x83 = .illegal .illegalSel ∧
    decode .query 0x92 = .illegal .illegalSel ∧ decode .query 0xA1 = .illegal .illegalSel := by decide

/-- 0x00, 0xB0 and 0xFF on any port (95 section 2.6). -/
theorem test_decode_reserved :
    decode .acq 0x00 = .illegal .reservedOp ∧ decode .query 0xB0 = .illegal .reservedOp ∧
    decode .tick 0xFF = .illegal .reservedOp := by decide

/-- Table words on their own ports; a number of more than 8 bits is no command word. -/
theorem test_table_words :
    decodeTableWord 8 0x10 = some .acquire ∧ decodeTableWord 8 0x6F = some (.rdFiltered 15) ∧
    decodeTableWord 8 0x00 = none ∧ decodeTableWord 8 0x110 = none := by decide

/-! ### Well-formedness: each check of R15 and R93 refuses an ill-formed term -/

theorem test_config_tc1_accepted : Config.accept Config.tc1 = some Config.tc1 := by decide
theorem test_config_refuses_warn_enter : Config.accept { Config.tc1 with tempWarnEnter := 450 } = none := by decide
theorem test_config_refuses_warn_exit : Config.accept { Config.tc1 with tempWarnExit := 350 } = none := by decide
theorem test_config_refuses_alarm_exit_high : Config.accept { Config.tc1 with tempAlarmExit := 450 } = none := by decide
theorem test_config_refuses_alarm_exit_low : Config.accept { Config.tc1 with tempAlarmExit := 330 } = none := by decide
theorem test_config_refuses_gas_order : Config.accept { Config.tc1 with gasAlarmEnter := 1500 } = none := by decide
theorem test_config_refuses_scale_den : Config.accept { Config.tc1 with scaleDen := 0 } = none := by decide
theorem test_config_refuses_on_warn : Config.accept { Config.tc1 with onMsWarn := 0 } = none := by decide
theorem test_config_refuses_on_alarm : Config.accept { Config.tc1 with onMsAlarm := 0 } = none := by decide
theorem test_config_refuses_period : Config.accept { Config.tc1 with offMsWarn := 65436 } = none := by decide
theorem test_channel_operand_refused : (Instr.rdFiltered 4).wellFormed = false := by decide
theorem test_channel_operand_accepted : (Instr.rdFiltered 3).wellFormed = true := by decide

/-! ### Sample Filter (95 section 2.1) -/

/-- R120's example: idx 7, seven readings of 1000, an eighth arrives. -/
def sevenReadings : State :=
  { State.reset with
    idx := 7
    hist := #v[#v[1000, 1000, 1000, 1000, 1000, 1000, 1000, 0], #v[0, 0, 0, 0, 0, 0, 0, 0],
               #v[0, 0, 0, 0, 0, 0, 0, 0], #v[0, 0, 0, 0, 0, 0, 0, 0]]
    sum := #v[7000, 0, 0, 0] }

theorem test_ingest_wrap :
    (sevenReadings.ingest #v[1000, 0, 0, 0]).sumAt 0 = 8000 ∧ (sevenReadings.ingest #v[1000, 0, 0, 0]).idx = 0 ∧
    (sevenReadings.ingest #v[1000, 0, 0, 0]).filled = true := by decide

/-- S1: in the full window, 2000 replaces 1000: the sum rises by 1000 and the mean is 1125. -/
theorem test_ingest_evicts :
    ((sevenReadings.ingest #v[1000, 0, 0, 0]).ingest #v[2000, 0, 0, 0]).sumAt 0 = 9000 ∧
    ((sevenReadings.ingest #v[1000, 0, 0, 0]).ingest #v[2000, 0, 0, 0]).filtered 0 = 1125 := by decide

/-- F-1, line 3: 601 over 3 samples truncates to 200. -/
theorem test_filtered_warm_up :
    State.filtered { State.reset with idx := 3, sum := #v[601, 0, 0, 0] } 0 = 200 := by decide

/-- S6: no division by zero before the first sample. -/
theorem test_filtered_empty : State.reset.filtered 3 = 0 := by decide

/-- M-1: under TC1, FILTERED(1) = 2048 gives 165, and 12 gives 0. -/
theorem test_metric_scale :
    State.metric Config.tc1 { State.reset with idx := 1, sum := #v[0, 2048, 0, 0] } = 165 ∧
    State.metric Config.tc1 { State.reset with idx := 1, sum := #v[0, 12, 0, 0] } = 0 := by decide

/-- M-2: 81900 mod 65536. -/
theorem test_metric_truncates :
    State.metric { Config.tc1 with scaleNum := 20, scaleDen := 1 }
      { State.reset with idx := 1, sum := #v[0, 4095, 0, 0] } = 0x3FEC := by decide

/-! ### Risk Classifier (95 section 2.2), TC1's temperature thresholds -/

theorem test_step_from_normal :
    riskStep .normal 349 Config.tc1.thTemp = .normal ∧ riskStep .normal 350 Config.tc1.thTemp = .warning ∧
    riskStep .normal 449 Config.tc1.thTemp = .warning ∧ riskStep .normal 450 Config.tc1.thTemp = .alarm := by decide

theorem test_step_from_warning :
    riskStep .warning 331 Config.tc1.thTemp = .warning ∧ riskStep .warning 330 Config.tc1.thTemp = .normal ∧
    riskStep .warning 449 Config.tc1.thTemp = .warning ∧ riskStep .warning 450 Config.tc1.thTemp = .alarm := by decide

theorem test_step_from_alarm :
    riskStep .alarm 401 Config.tc1.thTemp = .alarm ∧ riskStep .alarm 400 Config.tc1.thTemp = .warning ∧
    riskStep .alarm 0 Config.tc1.thTemp = .warning := by decide

/-- Three of the nine pairs of the combine table, both orders and a tie. -/
theorem test_combine :
    RiskLevel.max .normal .alarm = .alarm ∧ RiskLevel.max .alarm .warning = .alarm ∧
    RiskLevel.max .warning .warning = .warning := by decide

/-! ### Actuator Pattern Driver (95 sections 2.3, 2.4) -/

/-- A block whose target is `l`, with the phase counter at `n`. -/
def patterned (l : RiskLevel) (n : Half) : State := { State.reset with target := l, counter := n }

theorem test_set_target :
    ((patterned .warning 437).setTarget .warning).counter = 437 ∧
    ((patterned .warning 437).setTarget .alarm).counter = 0 ∧
    ((patterned .warning 437).setTarget .alarm).target = .alarm := by decide

/-- P-W: ticks 100, 101 and 1000 of the Warning pattern. -/
theorem test_tick_warning :
    ((patterned .warning 99).tickOutputs Config.tc1).buzzer = true ∧
    ((patterned .warning 100).tickOutputs Config.tc1).buzzer = false ∧
    ((patterned .warning 999).tickOutputs Config.tc1).counter = 0 ∧
    ((patterned .warning 998).tickOutputs Config.tc1).counter = 999 := by decide

/-- P-A: ticks 50, 51 and 100 of the Alarm pattern. -/
theorem test_tick_alarm :
    ((patterned .alarm 49).tickOutputs Config.tc1).buzzer = true ∧
    ((patterned .alarm 50).tickOutputs Config.tc1).buzzer = false ∧
    ((patterned .alarm 50).tickOutputs Config.tc1).motor = true ∧
    ((patterned .alarm 99).tickOutputs Config.tc1).counter = 0 := by decide

/-- P-N: Normal clears both outputs. -/
theorem test_tick_normal :
    (State.tickOutputs Config.tc1 { patterned .normal 5 with buzzer := true, motor := true }).buzzer = false ∧
    (State.tickOutputs Config.tc1 { patterned .normal 5 with buzzer := true, motor := true }).motor = false ∧
    (State.tickOutputs Config.tc1 { patterned .normal 5 with buzzer := true, motor := true }).counter = 0 := by decide

/-! ### Frame Publisher (95 section 2.5) -/

/-- The row "byte order": (0x80, 0x0B, 1, 256, 4095, 0x0ABC, 0xFFFF). -/
theorem test_frame_byte_order :
    frameBytes Config.tc1 0x80 0x0B (fun c => if c = 0 then 1 else if c = 1 then 256 else if c = 2 then 4095 else 0x0ABC)
      0xFFFF =
    [0xAA, 0x55, 0x80, 0x0B, 0x01, 0x00, 0x00, 0x01, 0xFF, 0x0F, 0xBC, 0x0A, 0xFF, 0xFF, 0x32, 0x0D] := by decide

/-- The row "seq 255": seq wraps to 0. -/
theorem test_build_wraps_seq :
    (State.build Config.tc1 { State.reset with seq := 0xFF } 0 (fun _ => 0) 0).seq = 0 ∧
    (State.build Config.tc1 { State.reset with seq := 0xFF } 0 (fun _ => 0) 0).frameByte 2 = 0xFF ∧
    (State.build Config.tc1 { State.reset with seq := 0xFF } 0 (fun _ => 0) 0).frameByte 14 = 0 := by decide

/-- The zero frame, as a reader sees it after reset. -/
theorem test_zero_frame_checksum : State.reset.frameByte 14 = 0xFF ∧ State.reset.frameByte 0 = 0xAA := by decide

/-- DRAIN at offset 15 returns the end marker and wraps the cursor. -/
theorem test_drain_wraps :
    exec .drain { State.reset with cursor := 15 } =
      .next { State.reset with cursor := 0, xData := 0x0D, xValid := true } := rfl

/-- RDF 15 after reset returns 0x000D. -/
theorem test_rd_frame : exec (.rdFrame 15) State.reset = .next { State.reset with qData := 0x000D, qValid := true } := rfl

/-! ### Cycle Orchestrator (95 section 3) -/

/-- L3-3, first line: `ACQ 0,0,3000,0` from reset, under TC1. -/
def gasAlarm : State := State.reset.acquireCycle Config.tc1 #v[0, 0, 3000, 0]

theorem test_acquire_decides :
    gasAlarm.gasState = .alarm ∧ gasAlarm.target = .alarm ∧ gasAlarm.counter = 0 ∧ gasAlarm.buzzer = false ∧
    gasAlarm.cursor = 0 ∧ gasAlarm.seq = 2 := by decide

theorem test_acquire_frame :
    (gasAlarm.frameByte 2, gasAlarm.frameByte 3, gasAlarm.frameByte 8, gasAlarm.frameByte 9, gasAlarm.frameByte 14) =
      (0x01, 0x04, 0xB8, 0x0B, 0x49) := by decide

/-- L3-4, third ACQUIRE: both risk bits clear while the buzzer bit still shows the old pattern. -/
theorem test_status_lag :
    State.statusByte { State.reset with buzzer := true } = 0x01 ∧
    State.statusByte { State.reset with buzzer := true, motor := true, tempState := .warning } = 0x0B := by decide

/-! ### Faults and service (95 sections 2.6, 3) -/

/-- L3-5: `RDV 5` raises CHANNEL_RANGE, flt = 0b101. -/
theorem test_channel_range :
    (match exec (.rdFiltered 5) State.reset with | .next t => t.flt | _ => 0) = 0b101 := by decide

/-- L3-5: `TICK@QUERY` raises ILLEGAL_COMMAND, flt = 0b011, and the latch is clear. -/
theorem test_illegal_command :
    (match step (State.reset.withProgram [.misrouted .tick .query]) with | .next t => (t.flt, t.pendQ) | _ => (0, true)) =
      (0b011, false) := by decide

/-- RDFLT after CHANNEL_RANGE returns 0x0005, in the Faulted state. -/
theorem test_rd_fault :
    exec .rdFault { State.reset with flt := 0b101 } =
      .next { State.reset with flt := 0b101, qData := 0x0005, qValid := true } := rfl

/-- In the Faulted state a TICK is consumed (R253). -/
theorem test_faulted_tick :
    (match exec .tick { patterned .alarm 7 with flt := 0b011 } with | .next t => (t.counter, t.buzzer) | _ => (0, true)) =
      (7, false) := by decide

/-- ACQ is served before QUERY, and the QUERY latch stays set (R259). -/
theorem test_priority :
    (match step { State.reset with pendAcq := true, acqCmd := 0x10, pendQ := true, qCmd := 0x70 } with
      | .next t => (t.seq, t.pendAcq, t.pendQ)
      | _ => (0, true, false)) = (2, false, true) := by decide

/-- A second TICK raised before the first is served is lost, and RESET drops a request raised with it (R258, R294). -/
theorem test_lost_request :
    ((State.reset.raise (.tick 0x20)).raise (.tick 0x21)).tickCmd = 0x20 ∧
    (match step { State.reset with env := [{ reset := true, requests := [.tick 0x20] }] } with
      | .next t => t.pendTick
      | _ => true) = false := by decide

/-- `withFetchWord` makes the next step run the word: DRAIN returns 0xAA after reset. -/
theorem test_with_fetch_word :
    (match step (State.reset.withFetchWord 8 0x30) with | .next t => (t.xData, t.xValid, t.cursor) | _ => (0, false, 0)) =
      (0xAA, true, 1) := by decide

/-- `DRAIN16` stands for sixteen requests and `RESET` for none (R103, R290). -/
theorem test_program_lines :
    (programInputs [.drain16, .reset]).length = 17 ∧ (Line.inputs .reset).all (fun i => i.requests.isEmpty) = true := by
  decide

/-! ### Witnesses: a state and operands that meet the hypotheses of each statement that has some -/

/-- A block with a TICK latched. -/
def tickLatched : State := { State.reset with pendTick := true, tickCmd := 0x20 }

/-- A block with an illegal word latched on QUERY. -/
def badLatched : State := { State.reset with pendQ := true, qCmd := 0x20 }

theorem witness_running : State.reset.faulted = false := by decide
theorem witness_faulted : ({ State.reset with flt := 0b101 } : State).faulted = true := by decide
theorem witness_idle : State.reset.env = [] ∧ State.reset.nextPort = none := by decide
theorem witness_idle_running : State.reset.Idle := ⟨by decide, by decide⟩

theorem witness_StepRunsTheDecodedCommand :
    tickLatched.inputs.reset = false ∧ tickLatched.latched.nextPort = some .tick ∧
    decode .tick (tickLatched.latched.command .tick) = .command .tick ∧ ∃ t, exec .tick tickLatched.latched = .next t :=
  ⟨by decide, by decide, by decide, exec_next _ _⟩

theorem witness_IllegalWordRaisesIllegalCommand :
    badLatched.inputs.reset = false ∧ badLatched.latched.nextPort = some .query ∧
    decode .query (badLatched.latched.command .query) = .illegal .wrongPort ∧ badLatched.faulted = false := by decide

theorem witness_ChannelOutOfRangeFaults : State.reset.faulted = false ∧ 3 < (4 : BitVec 4).toNat := by decide

/-- A block with a TICK latched has a next step, with any registers of the classifier and filter; the hypothesis
`step s = .next t` is met with it. -/
theorem witness_step (s : State) (he : s.env = []) (ha : s.pendAcq = false) (hx : s.pendX = false)
    (ht : s.pendTick = true) (hc : s.tickCmd = 0x20) : ∃ t, step s = .next t := by
  have hl : s.latched = s := by
    have : s.withEnv [] = s := by rw [State.withEnv, ← he]
    simp only [State.latched, State.inputs, he, List.tail_nil, State.raiseAll, this]
  have hd : decode .tick 0x20 = .command .tick := by decide
  have hp : s.latched.nextPort = some .tick := by simp [hl, State.nextPort, ha, hx, ht]
  have hw : decode .tick (s.latched.command .tick) = .command .tick := by rw [hl, State.command, hc]; exact hd
  have hr : s.inputs.reset = false := by simp [State.inputs, he]
  obtain ⟨u, hu⟩ := exec_next .tick s.latched
  refine ⟨u.clearLatch .tick, ?_⟩
  simp only [step, State.nextService, hr, State.arbitrate, hp, hw, Bool.false_eq_true, if_false]
  rw [hu]; rfl

/-- `s` with a TICK latched. -/
def ticking (s : State) : State := { s with pendTick := true, tickCmd := 0x20 }

theorem reset_FilterInv : State.reset.FilterInv := ⟨by decide, by decide⟩
theorem witness_StepKeepsTheRunningSums : tickLatched.FilterInv ∧ ∃ t, step tickLatched = .next t :=
  ⟨⟨by decide, by decide⟩, witness_step _ rfl rfl rfl rfl rfl⟩

/-- A block just out of reset, with one ACQUIRE to come. -/
def oneAcquire : State := State.reset.withProgram [.acq #v[1000, 0, 0, 0]]

theorem witness_FilterHoldsTheLastEightReadings :
    oneAcquire.FilterEmpty ∧ oneAcquire.NoResetAhead ∧ readingsServed 1 oneAcquire = [#v[1000, 0, 0, 0]] :=
  ⟨⟨by decide, by decide, by decide⟩, fun i h => by simp [oneAcquire, State.withProgram, programInputs, Line.inputs] at h; rw [h]; rfl,
   by decide⟩

theorem witness_FilteredIsTheMovingAverage : State.reset.Idle ∧ State.reset.FilterEmpty :=
  ⟨witness_idle_running, by decide, by decide, by decide⟩

theorem witness_SequenceLaw : oneAcquire.AfterReset ∧ oneAcquire.NoResetAhead ∧ (readingsServed 1 oneAcquire).length = 1 :=
  ⟨⟨by decide, by decide, by decide, by decide, by decide, by decide, by decide, by decide, by decide, by decide, by decide,
    by decide, by decide, by decide, fun p => by cases p <;> rfl⟩, witness_FilterHoldsTheLastEightReadings.2.1, by decide⟩

theorem witness_FilledIsPermanent :
    ({ tickLatched with filled := true } : State).filled = true ∧
    ∃ t, step { tickLatched with filled := true } = .next t := ⟨rfl, witness_step _ rfl rfl rfl rfl rfl⟩

/-- Two states that differ in channel 1 and agree in channel 0. -/
theorem witness_LanesAreIndependent :
    let s : State := State.reset
    let t : State := { State.reset with sum := #v[0, 9, 0, 0], acqData := #v[0, 7, 0, 0] }
    s.faulted = false ∧ t.faulted = false ∧ s.idx = t.idx ∧ s.filled = t.filled ∧ s.sumAt 0 = t.sumAt 0 ∧
    (∀ k, s.histAt 0 k = t.histAt 0 k) ∧ s.acqData[0] = t.acqData[0] ∧ s.sum ≠ t.sum := by decide

theorem witness_ComparatorTransitions : Config.tc1.thTemp.ordered = true := by decide

/-- The two values nearest the thresholds. -/
theorem witness_NoFlickerInWarning :
    ∀ v ∈ [(331 : Half), 449], Config.tc1.thTemp.warnExit < v ∧ v < Config.tc1.thTemp.alarmEnter := by
  intro v hv
  simp only [List.mem_cons, List.not_mem_nil, or_false] at hv
  rcases hv with rfl | rfl <;> decide

/-- A block in Alarm on both quantities, with a TICK latched. -/
def bothAlarm : State := { tickLatched with tempState := .alarm, gasState := .alarm }

theorem witness_AlarmNeverDropsToNormal :
    bothAlarm.inputs.reset = false ∧ bothAlarm.tempState = .alarm ∧ bothAlarm.gasState = .alarm ∧
    ∃ t, step bothAlarm = .next t :=
  ⟨by decide, by decide, by decide, witness_step bothAlarm (by decide) (by decide) (by decide) (by decide) (by decide)⟩

/-- An idle block with TICKs to come serves the first and is idle again, its target unchanged. -/
theorem tick_served {s : State} {rest : List Inputs} (hi : s.Idle) (he : s.env = raising (.tick 0x20) :: rest) :
    s.serving = some .tick ∧ ∃ t, step s = .next t ∧ t.Idle ∧ t.env = rest ∧ t.target = s.target := by
  obtain ⟨hr, hl, hp, hw, -⟩ := State.latched_of_raising hi.2 he
  obtain ⟨ha, hx, ht, hq⟩ := State.nextPort_eq_none.1 hi.2
  have hn : s.nextService = .run .tick .tick s.latched :=
    State.nextService_command hr hp (hw.symm ▸ test_decode_tick)
  have hf : s.latched.faulted = false := by rw [hl]; simpa [State.faulted] using hi.1
  have hx' : exec .tick s.latched = .next (s.latched.tickOutputs Config.params).returnNothing := by
    simp [exec, execTick, State.unlessFaulted, hf]
  refine ⟨by simp [State.serving, hn, hi.1], ((s.latched.tickOutputs Config.params).returnNothing).clearLatch .tick,
    ?_, ⟨?_, State.nextPort_eq_none.2 ?_⟩, ?_, by simp⟩
  · rw [step, hn]; simp only [hx', complete]
  · simpa [State.faulted] using hi.1
  · simp [hl, State.raise, State.clearLatch, ha, hx, ht, hq]
  · simp [hl, State.raise, ht]

/-- `n` TICKs to come are all served, under one target. -/
theorem ticks_served : ∀ (n : Nat) (s : State), s.Idle → s.env = List.replicate n (raising (.tick 0x20)) →
    ticksServed n s = n ∧ ∀ t ∈ statesOf n s, t.target = s.target
  | 0, _, _, _ => ⟨rfl, by simp [statesOf]⟩
  | n + 1, s, hi, he => by
    obtain ⟨hs, t, ht, hti, hte, htt⟩ := tick_served hi he
    obtain ⟨hn, hst⟩ := ticks_served n t hti hte
    refine ⟨by simp [ticksServed, ht, hs, hn], fun u hu => ?_⟩
    simp only [statesOf, ht, List.mem_cons] at hu
    rcases hu with rfl | hu
    · exact htt
    · rw [hst u hu, htt]

/-- Every `j ≥ 1` under each patterned target, the counter at 0: the edges of the on time and of the period
(j = 50, 51, 100, 101, 1000, 1001) among them. -/
theorem witness_WaveformLaw (l : RiskLevel) (hl : l ≠ .normal) (j : Nat) (hj : 1 ≤ j) :
    let s : State := (patterned l 0).withProgram [.ticks j]
    s.target ≠ .normal ∧ s.counter = 0 ∧ (∀ t ∈ statesOf j s, t.target = s.target) ∧ ticksServed j s = j ∧
    1 ≤ ticksServed j s := by
  have h := ticks_served j ((patterned l 0).withProgram [.ticks j])
    ⟨(witness_running : State.reset.faulted = false), rfl⟩
    (by simp [State.withProgram, programInputs, Line.inputs, requestOf, requestOn, encode])
  exact ⟨hl, rfl, h.2, h.1, by rw [h.1]; exact hj⟩

/-- At the largest counter value of each level. -/
theorem witness_StepKeepsTheCounterInThePeriod :
    (∀ n l, (n, l) = ((1000 : Half), RiskLevel.warning) ∨ (n, l) = (100, .alarm) ∨ (n, l) = (0, .normal) →
      (ticking (patterned l n)).PatternInv Config.params ∧ ∃ t, step (ticking (patterned l n)) = .next t) := by
  rintro n l (h | h | h) <;> cases h <;>
    exact ⟨Nat.le_of_ble_eq_true rfl, witness_step _ rfl rfl rfl rfl rfl⟩

theorem witness_SixteenDrainsReturnTheFrame : State.reset.Idle ∧ State.reset.cursor = 0 :=
  ⟨witness_idle_running, rfl⟩

theorem reset_FrameInv : State.reset.FrameInv Config.params := by
  have hf : State.reset.filtered = fun _ => 0 := rfl
  have hm : State.reset.metric Config.params = 0 := by simp [State.metric, State.metricExact, hf]
  refine ⟨by decide, by decide, by decide, false, false, ?_⟩
  rw [hf, hm]
  exact ⟨by decide, by decide, by decide, by decide, by decide, by decide, by decide, by decide, by decide⟩

theorem witness_QueriesAgreeWithTheFrame : State.reset.faulted = false ∧ State.reset.FrameInv Config.params :=
  ⟨witness_running, reset_FrameInv⟩

theorem witness_QueriesAreIdempotent :
    State.reset.faulted = false ∧ (encode (.rdFiltered 3)).1 = .query ∧ (Instr.rdFiltered 3).wellFormed = true ∧
    ∃ t u, exec (.rdFiltered 3) State.reset = .next t ∧ exec (.rdFiltered 3) t = .next u :=
  ⟨by decide, by decide, by decide, _, _, rfl, rfl⟩

theorem witness_FaultedBlockConsumesCommands :
    ({ State.reset with flt := 0b011 } : State).faulted = true ∧ Instr.acquire ≠ .rdFault := by decide

theorem witness_FaultedUntilReset :
    let s : State := { State.reset with flt := 0b011, env := [{ requests := [.tick 0x20] }] }
    s.faulted = true ∧ s.NoResetAhead := ⟨by decide, fun i h => by simp at h; rw [h]⟩

theorem witness_StepKeepsTheFaultRegisterLegal (f : BitVec 3) (h : f = 0b000 ∨ f = 0b011 ∨ f = 0b101) :
    (ticking { State.reset with flt := f }).FltInv ∧ ∃ t, step (ticking { State.reset with flt := f }) = .next t :=
  ⟨h, witness_step _ rfl rfl rfl rfl rfl⟩

theorem witness_ResetRestoresEveryRegister :
    ({ State.reset with flt := 0b011, env := [{ reset := true }] } : State).inputs.reset = true := by decide

/-- One state for each clause: nothing served, and each of the four writing commands served. -/
theorem witness_SingleWriterOwnership :
    State.reset.inputs.reset = false ∧ State.reset.serving = none ∧ tickLatched.serving = some .tick ∧
    ({ State.reset with pendX := true, xCmd := 0x30 } : State).serving = some .drain ∧
    ({ State.reset with pendX := true, xCmd := 0x40 } : State).serving = some .resetCursor ∧
    ({ State.reset with pendAcq := true, acqCmd := 0x10 } : State).serving = some .acquire ∧
    badLatched.serving = none := by decide

/-- The two words that may write the fault register: an illegal one, and RD_FILTERED at both ends of c = 4..15. -/
theorem witness_SingleWriterOwnership_flt :
    badLatched.faulted = false ∧ decode .query (badLatched.latched.command .query) = .illegal .wrongPort ∧
    ({ State.reset with pendQ := true, qCmd := 0x64 } : State).serving = some (.rdFiltered 4) ∧
    ({ State.reset with pendQ := true, qCmd := 0x6F } : State).serving = some (.rdFiltered 15) := by decide

theorem witness_StepKeepsTheBlockInvariant : (ticking State.reset).Inv ∧ ∃ t, step (ticking State.reset) = .next t :=
  ⟨⟨reset_FilterInv, reset_FrameInv, Nat.le_refl 0, .inl rfl, rfl⟩, witness_step _ rfl rfl rfl rfl rfl⟩

/-- A program with an input of each kind: a command, RESET, and a word on the wrong port. -/
theorem witness_ProgramsAreServedInOrder :
    State.reset.nextPort = none ∧
    programInputs [.tick, .reset, .misrouted .tick .query] =
      [raising (.tick 0x20), { reset := true, requests := [] }, raising (.query 0x20)] := by decide

end Sys2Proof.Tests
end

/-! PROOF. The scope of the block (00_scope.md): which configurations are admitted and at which values the machine runs
(R13, R15, R48), and what TICK writes under them (R11, R172). -/

namespace Sys2Proof

/-! ### Well-formed configurations (R13, R15) -/

/-- The four orderings of R13, as comparisons. -/
theorem Thresholds.ordered_iff (t : Thresholds) :
    t.ordered = true ↔
      t.alarmEnter > t.warnEnter ∧ t.warnEnter > t.warnExit ∧ t.alarmEnter > t.alarmExit ∧ t.alarmExit > t.warnExit := by
  simp only [Thresholds.ordered, Bool.and_eq_true, decide_eq_true_iff, and_assoc, gt_iff_lt]

/-- R15's two bounds on one level's pattern, as comparisons. -/
theorem patternTimesOk_iff (on off : Half) :
    patternTimesOk on off = true ↔ 1 ≤ on.toNat ∧ on.toNat + off.toNat ≤ 65535 := by
  simp only [patternTimesOk, Bool.and_eq_true, decide_eq_true_iff]

/-- R15's conditions, one for each part of the configuration. -/
theorem Params.wellFormed_iff (p : Params) :
    p.wellFormed = true ↔
      p.thTemp.ordered = true ∧ p.thGas.ordered = true ∧ 1 ≤ p.scaleDen ∧
      patternTimesOk p.onMsWarn p.offMsWarn = true ∧ patternTimesOk p.onMsAlarm p.offMsAlarm = true := by
  simp only [Params.wellFormed, Bool.and_eq_true, decide_eq_true_iff, and_assoc]

/-- Legality is R15's well-formedness and R13's bound on TEMP_ALARM_ENTER. -/
theorem Params.legal_iff (p : Params) :
    p.legal = true ↔ p.wellFormed = true ∧ 360 < p.tempAlarmEnter.toNat := by
  simp only [Params.legal, Bool.and_eq_true, decide_eq_true_iff]

/-- A configuration is refused exactly where it is not well-formed (R15). -/
theorem Config.accept_eq_none_iff (p : Params) : Config.accept p = none ↔ ¬ p.wellFormed = true := by
  by_cases h : p.wellFormed = true <;> simp [Config.accept, h]

/-! ### The configuration the machine runs with (R48) -/

/-- The block at hand carries the legality of its parameters. -/
theorem Config.params_legal : Config.params.legal = true := Config.block.legal

theorem Config.params_wellFormed : Config.params.wellFormed = true :=
  ((Params.legal_iff _).1 Config.params_legal).1

theorem Config.params_tempAlarmEnter : 360 < Config.params.tempAlarmEnter.toNat :=
  ((Params.legal_iff _).1 Config.params_legal).2

@[simp] theorem Config.params_tempWarnEnter : Config.params.tempWarnEnter = 350 := rfl
@[simp] theorem Config.params_tempWarnExit : Config.params.tempWarnExit = 330 := rfl
@[simp] theorem Config.params_onMsWarn : Config.params.onMsWarn = 100 := rfl
@[simp] theorem Config.params_offMsWarn : Config.params.offMsWarn = 900 := rfl
@[simp] theorem Config.params_onMsAlarm : Config.params.onMsAlarm = 50 := rfl
@[simp] theorem Config.params_offMsAlarm : Config.params.offMsAlarm = 50 := rfl
@[simp] theorem Config.params_sync0 : Config.params.sync0 = 0xAA := rfl
@[simp] theorem Config.params_sync1 : Config.params.sync1 = 0x55 := rfl
@[simp] theorem Config.params_endMarker : Config.params.endMarker = 0x0D := rfl

/-- Settles O51: legality is a field of the block, R48's values are the defaults of `Params`, and the refusal is the
negation of R15's conditions, each in its own `↔`. -/
theorem onlyWellFormedConfigurations : Obligations.OnlyWellFormedConfigurations := by
  refine ⟨Config.params_wellFormed, Config.params_tempAlarmEnter,
    Config.params_tempWarnEnter, Config.params_tempWarnExit, Config.params_onMsWarn, Config.params_offMsWarn,
    Config.params_onMsAlarm, Config.params_offMsAlarm, Config.params_sync0, Config.params_sync1,
    Config.params_endMarker, fun p => ?_⟩
  rw [Config.accept_eq_none_iff, Params.wellFormed_iff, Thresholds.ordered_iff, Thresholds.ordered_iff,
    patternTimesOk_iff, patternTimesOk_iff]
  simp only [Params.thTemp, Params.thGas, and_assoc]

end Sys2Proof

namespace Sys2Proof.Machine

/-! ### TICK (R172) -/

/-- A TICK served while the block is not faulted drives the outputs and returns no value (R91, R172). -/
theorem exec_tick_of_running {s : State} (h : s.faulted = false) :
    exec .tick s = .next (s.tickOutputs Config.params).returnNothing :=
  State.unlessFaulted_running h _ _

/-- A TICK under a patterned level, with the incremented counter as a number: the 16-bit increment is that number's
word whether or not it wraps. -/
theorem State.patternTick_eq (s : State) (on off : Half) (motor : Bool) :
    s.patternTick on off motor =
      { s with
        counter := if s.counter.toNat + 1 ≥ on.toNat + off.toNat then 0 else BitVec.ofNat 16 (s.counter.toNat + 1)
        buzzer := decide (s.counter.toNat + 1 ≤ on.toNat)
        motor := motor } := by
  have hinc : s.counter + 1 = BitVec.ofNat 16 (s.counter.toNat + 1) := by
    apply BitVec.eq_of_toNat_eq
    simp
  rw [State.patternTick, hinc]
  rfl

/-- Settles O27, by the three targets: Normal has no pattern, Warning and Alarm run `patternTick` at R11's timings. -/
theorem tickDrivesTheOutputs : Obligations.TickDrivesTheOutputs := by
  intro s hrun
  rw [exec_tick_of_running hrun]
  split
  case h_1 htarget => rw [State.tickOutputs_normal _ htarget]; rfl
  case h_2 htarget => rw [State.tickOutputs_warning _ htarget, State.patternTick_eq]; rfl
  case h_3 htarget => rw [State.tickOutputs_alarm _ htarget, State.patternTick_eq]; rfl

end Sys2Proof.Machine

/-! PROOF. The block's state (10_state.md): what one step can do to its units and its fault register, and the invariants
every step keeps (R34, R40, R46, R207, R233, R234), their values at reset (R51, R292), the capture of a request (R258) and
the risk queries (R155 to R157). -/

namespace Sys2Proof.Machine

/-! ### The four units through one step -/

theorem State.SameUnits.trans {s t u : State} (hst : s.SameUnits t) (htu : t.SameUnits u) : s.SameUnits u := by
  obtain ⟨h1, h2, h3, h4, h5, h6, h7, h8, h9, h10, h11, h12, h13⟩ := hst
  obtain ⟨k1, k2, k3, k4, k5, k6, k7, k8, k9, k10, k11, k12, k13⟩ := htu
  exact ⟨k1.trans h1, k2.trans h2, k3.trans h3, k4.trans h4, k5.trans h5, k6.trans h6, k7.trans h7, k8.trans h8,
    k9.trans h9, k10.trans h10, k11.trans h11, k12.trans h12, k13.trans h13⟩

theorem State.sameUnits_latched (s : State) : s.SameUnits s.latched := by simp [State.SameUnits]

theorem State.sameUnits_clearLatch (s : State) (p : Port) : s.SameUnits (s.clearLatch p) := by
  simp [State.SameUnits]

theorem State.sameUnits_serveIllegal (s : State) (p : Port) : s.SameUnits (s.serveIllegal p) := by
  simp [State.SameUnits]

theorem State.sameUnits_returnNothing (s : State) : s.SameUnits s.returnNothing := by simp [State.SameUnits]

theorem State.sameUnits_takeReset (s : State) : State.reset.SameUnits s.takeReset := by
  obtain ⟨_, _, _, _, _, _, _, _, h⟩ := s.takeReset_eq
  simp [State.SameUnits, h]

/-- The fault entry leaves the fault register as it was or writes one of the two codes (R250, R251). -/
theorem State.raiseFault_flt (s : State) (f : FaultCause) :
    (s.raiseFault f).flt = s.flt ∨ (s.raiseFault f).flt = 0b011 ∨ (s.raiseFault f).flt = 0b101 := by
  rw [State.raiseFault_eq]
  cases s.faulted
  · cases f
    · exact .inr (.inl rfl)
    · exact .inr (.inr rfl)
  · exact .inl rfl

/-- `t` has the units of `s` but for the transport's cursor, and the fault register of `s` or one of the two codes. -/
def State.CursorOrFault (s t : State) : Prop :=
  (∃ c, (s.withCursor c).SameUnits t) ∧ (t.flt = s.flt ∨ t.flt = 0b011 ∨ t.flt = 0b101)

theorem State.cursorOrFault_of_sameUnits {s t : State} (hunits : s.SameUnits t)
    (hflt : t.flt = s.flt ∨ t.flt = 0b011 ∨ t.flt = 0b101) : s.CursorOrFault t :=
  ⟨⟨s.cursor, hunits⟩, hflt⟩

/-- What a command does to the units and the fault register: ACQUIRE's cycle, TICK's outputs, or no more than the cursor
and a fault code. -/
theorem exec_units {i : Instr} {s t : State} (h : exec i s = .next t) :
    ((s.acquireCycle Config.params s.acqData).SameUnits t ∧ t.flt = s.flt) ∨
    ((s.tickOutputs Config.params).SameUnits t ∧ t.flt = s.flt) ∨
    s.CursorOrFault t := by
  rcases exec_cases h with ⟨-, -, rfl⟩ | ⟨-, -, rfl⟩ | ⟨-, -, rfl⟩ | ⟨-, -, rfl⟩ | ⟨f, x, q, xv, qv, n, rfl, hf⟩
  · exact .inl ⟨State.sameUnits_returnNothing _, by simp⟩
  · exact .inr (.inl ⟨State.sameUnits_returnNothing _, by simp⟩)
  · exact .inr (.inr ⟨⟨s.cursor + 1, by simp [State.SameUnits]⟩, .inl (by simp)⟩)
  · exact .inr (.inr ⟨⟨0, by simp [State.SameUnits]⟩, .inl (by simp)⟩)
  · refine .inr (.inr (State.cursorOrFault_of_sameUnits (by simp [State.SameUnits]) ?_))
    rcases hf with hf | ⟨-, hf⟩
    · exact .inl hf
    · exact .inr (.inr hf)

/-- What a step does to the units and the fault register: RESET's values, ACQUIRE's cycle, TICK's outputs, or no more than
the cursor and a fault code. -/
theorem step_units {s t : State} (h : step s = .next t) :
    (State.reset.SameUnits t ∧ t.flt = 0) ∨
    ((s.latched.acquireCycle Config.params s.latched.acqData).SameUnits t ∧ t.flt = s.flt) ∨
    ((s.latched.tickOutputs Config.params).SameUnits t ∧ t.flt = s.flt) ∨
    s.latched.CursorOrFault t := by
  rcases step_cases h with ⟨-, rfl⟩ | ⟨-, -, rfl⟩ | ⟨p, -, -, -, -, rfl⟩ | ⟨p, i, u, -, -, -, hu, rfl⟩
  · refine .inl ⟨State.sameUnits_takeReset _, ?_⟩
    obtain ⟨_, _, _, _, _, _, _, _, hreset⟩ := State.takeReset_eq (s.withEnv s.env.tail)
    rw [hreset]; rfl
  · exact .inr (.inr (.inr (State.cursorOrFault_of_sameUnits (by simp [State.SameUnits]) (.inl rfl))))
  · have hunits := (s.latched.sameUnits_serveIllegal p).trans (State.sameUnits_clearLatch _ p)
    refine .inr (.inr (.inr (State.cursorOrFault_of_sameUnits hunits ?_)))
    simpa [State.serveIllegal, State.faultOn] using s.latched.raiseFault_flt .illegalCommand
  · have hclear := u.sameUnits_clearLatch p
    rw [State.clearLatch_flt]
    rcases exec_units hu with ⟨hunits, hflt⟩ | ⟨hunits, hflt⟩ | ⟨⟨c, hunits⟩, hflt⟩
    · exact .inr (.inl ⟨hunits.trans hclear, by simpa using hflt⟩)
    · exact .inr (.inr (.inl ⟨hunits.trans hclear, by simpa using hflt⟩))
    · exact .inr (.inr (.inr ⟨⟨c, hunits.trans hclear⟩, by simpa using hflt⟩))

/-- The induction over a step, once for every property of the units that does not read the cursor: it is enough that the
reset state has it and that ACQUIRE and TICK keep it. -/
theorem step_preserves {P : State → Prop}
    (hcongr : ∀ {s t : State} (c : Offset), (s.withCursor c).SameUnits t → P s → P t)
    (hreset : P State.reset)
    (hacquire : ∀ (s : State) (r : Readings), P s → P (s.acquireCycle Config.params r))
    (htick : ∀ s : State, P s → P (s.tickOutputs Config.params))
    {s t : State} (hs : P s) (h : step s = .next t) : P t := by
  have hunits : ∀ {a b : State}, a.SameUnits b → P a → P b := fun {a _} hab => hcongr a.cursor hab
  have hlatched : P s.latched := hunits s.sameUnits_latched hs
  rcases step_units h with ⟨ht, -⟩ | ⟨ht, -⟩ | ⟨ht, -⟩ | ⟨⟨c, ht⟩, -⟩
  · exact hunits ht hreset
  · exact hunits ht (hacquire _ _ hlatched)
  · exact hunits ht (htick _ hlatched)
  · exact hcongr c ht hlatched

/-! ### The sums of the histories (R34) -/

/-- A list of readings that is 0 from place `n` on sums to at most `n` times the largest reading. -/
theorem sum_readings_le (l : List Reading) :
    ∀ n, (∀ k, (hk : k < l.length) → n ≤ k → l[k] = 0) → (l.map BitVec.toNat).sum ≤ n * 4095 := by
  induction l with
  | nil => simp
  | cons x rest ih =>
    intro n hzero
    have hx := x.isLt
    rw [List.map_cons, List.sum_cons]
    cases n with
    | zero =>
      have hx0 : x = 0 := hzero 0 (by simp) (le_refl _)
      have hrest := ih 0 fun k hk _ => hzero (k + 1) (by simpa using hk) (by omega)
      simpa [hx0] using hrest
    | succ n =>
      have hrest := ih n fun k hk hnk => hzero (k + 1) (by simpa using hk) (by omega)
      omega

/-- A history that is 0 from slot `n` on sums to at most `n` times the largest reading. -/
theorem windowSum_le (h : Vector Reading 8) (n : Nat) (hzero : ∀ k, (hk : k < 8) → n ≤ k → h[k] = 0) :
    windowSum h ≤ n * 4095 :=
  sum_readings_le h.toList n fun k hk hnk => by simpa using hzero k (by simpa using hk) hnk

/-- Overwriting one slot exchanges its reading for the new one in the sum (R120). -/
theorem windowSum_set (h : Vector Reading 8) (k : Nat) (hk : k < 8) (x : Reading) :
    windowSum (h.set k x) + h[k].toNat = windowSum h + x.toNat := by
  have hset : ∀ y : Reading, windowSum (h.set k y) =
      ((h.toList.map BitVec.toNat).take k).sum + y.toNat + ((h.toList.map BitVec.toNat).drop (k + 1)).sum := fun y => by
    simp [windowSum, Vector.toList_set, List.map_set, List.sum_set, hk]
  have hself : windowSum h = windowSum (h.set k h[k]) := by rw [Vector.set_getElem_self]
  rw [hself, hset, hset]
  omega

/-! ### The filter's invariant (R34, R127) -/

theorem State.FilterInv.sum_eq {s : State} (h : s.FilterInv) (c : Channel) : (s.sumAt c).toNat = windowSum (s.histOf c) :=
  h.1 c

/-- A sum is at most the largest reading for each sample seen. -/
theorem State.FilterInv.sum_le {s : State} (h : s.FilterInv) (c : Channel) : (s.sumAt c).toNat ≤ s.effCount * 4095 := by
  rw [h.sum_eq c]
  apply windowSum_le
  intro k hk hcount
  obtain ⟨-, hempty⟩ := h
  cases hfilled : s.filled
  · have hidx : s.idx ≤ BitVec.ofNat 3 k := by
      rw [BitVec.le_def, BitVec.toNat_ofNat, Nat.mod_eq_of_lt hk]
      simpa [State.effCount, hfilled] using hcount
    simpa [State.histAt, Nat.mod_eq_of_lt hk] using hempty hfilled c (BitVec.ofNat 3 k) hidx
  · simp only [State.effCount, hfilled, if_true] at hcount
    omega

theorem State.effCount_le (s : State) : s.effCount ≤ 8 := by
  unfold State.effCount
  have := s.idx.isLt
  split <;> omega

/-- No sum exceeds eight times the largest reading (R34). -/
theorem State.FilterInv.sum_le_32760 {s : State} (h : s.FilterInv) (c : Channel) : (s.sumAt c).toNat ≤ 32760 := by
  have := h.sum_le c
  have := s.effCount_le
  omega

/-- A filtered value is the mean of readings, so it has 12 bits (R122). -/
theorem State.FilterInv.filtered_le {s : State} (h : s.FilterInv) (c : Channel) : (s.filtered c).toNat ≤ 4095 := by
  rw [State.filtered_toNat]
  exact Nat.div_le_of_le_mul (h.sum_le c)

theorem State.FilterEmpty.filterInv {s : State} (h : s.FilterEmpty) : s.FilterInv := by
  obtain ⟨hzero, -, -⟩ := h
  refine ⟨fun c => ?_, fun _ c k _ => (hzero c).2 k⟩
  obtain ⟨hsum, hhist⟩ := hzero c
  have hwindow : windowSum (s.histOf c) ≤ 0 * 4095 := windowSum_le _ 0 fun k hk _ => by
    simpa [State.histAt, Nat.mod_eq_of_lt hk] using hhist (BitVec.ofNat 3 k)
  rw [Nat.zero_mul, Nat.le_zero] at hwindow
  rw [hsum, hwindow]
  rfl

theorem State.reset_filterEmpty : State.reset.FilterEmpty := ⟨by decide, rfl, rfl⟩

theorem State.FilterInv.congr {s t : State} (hhist : t.hist = s.hist) (hsum : t.sum = s.sum) (hidx : t.idx = s.idx)
    (hfilled : t.filled = s.filled) (h : s.FilterInv) : t.FilterInv := by
  unfold State.FilterInv State.sumAt State.histAt State.histOf at h ⊢
  simpa only [hhist, hsum, hidx, hfilled] using h

/-- Where the invariant holds, INGEST's 16-bit sum is the exact sum of the next history (R34, R120). -/
theorem State.FilterInv.nextSum_toNat {s : State} (h : s.FilterInv) (r : Readings) (c : Channel) :
    (s.nextSum r c).toNat = windowSum (s.nextHist r c) := by
  have hset := windowSum_set (s.histOf c) s.idx.toNat s.idx.isLt (readingOf r c)
  have hold := h.sum_eq c
  have hmax : windowSum (s.nextHist r c) ≤ 8 * 4095 := windowSum_le _ 8 (by omega)
  have hevicted : (s.histAt c s.idx).toNat = ((s.histOf c)[s.idx.toNat]'s.idx.isLt).toNat := rfl
  have := (readingOf r c).isLt
  have := (s.histAt c s.idx).isLt
  simp only [State.nextHist] at hmax ⊢
  simp only [State.nextSum, zextReading, BitVec.toNat_sub, BitVec.toNat_add, BitVec.zeroExtend_eq_setWidth,
    BitVec.toNat_setWidth]
  omega

/-- Before the wrap, the slots from the advanced index on are not the slot just written. -/
theorem slot_after_ingest {k idx : Slot} (hidx : idx ≠ 7) (hk : idx + 1 ≤ k) : k ≠ idx ∧ idx ≤ k := by
  revert k idx
  decide

theorem State.FilterInv.ingest {s : State} (h : s.FilterInv) (r : Readings) : (s.ingest r).FilterInv := by
  refine ⟨fun c => ?_, fun hfilled c k hk => ?_⟩
  · rw [State.sumAt_ingest, State.histOf_ingest, h.nextSum_toNat]
  · obtain ⟨hempty, hidx⟩ : s.filled = false ∧ s.idx ≠ 7 := by simpa [filledAfter] using hfilled
    obtain ⟨hne, hle⟩ := slot_after_ingest hidx (by simpa using hk)
    rw [State.histAt_ingest, if_neg hne]
    exact h.2 hempty c k hle

theorem State.FilterInv.acquireCycle {s : State} (h : s.FilterInv) (r : Readings) :
    (s.acquireCycle Config.params r).FilterInv :=
  State.FilterInv.congr (by simp) (by simp) (by simp) (by simp) (h.ingest r)

theorem step_keeps_filterInv {s t : State} (hs : s.FilterInv) (h : step s = .next t) : t.FilterInv :=
  step_preserves (fun _ ⟨hhist, hsum, hidx, hfilled, _⟩ => State.FilterInv.congr hhist hsum hidx hfilled)
    State.reset_filterEmpty.filterInv (fun _ r hs => hs.acquireCycle r)
    (fun _ => State.FilterInv.congr (by simp) (by simp) (by simp) (by simp)) hs h

/-- Settles O16: the exactness of INGEST's sum, and the bound by the samples seen. -/
theorem stepKeepsTheRunningSums : Obligations.StepKeepsTheRunningSums :=
  ⟨State.reset_filterEmpty.filterInv, fun _ _ => step_keeps_filterInv, fun _ => State.FilterInv.sum_le_32760⟩

/-! ### The phase counter (R40) -/

theorem State.PatternInv.congr {cfg : Params} {s t : State} (htarget : t.target = s.target)
    (hcounter : t.counter = s.counter) (h : s.PatternInv cfg) : t.PatternInv cfg := by
  rw [State.PatternInv, htarget, hcounter]
  exact h

/-- SET_TARGET keeps the counter or clears it (R171). -/
theorem State.PatternInv.acquireCycle {cfg : Params} {s : State} (h : s.PatternInv cfg) (r : Readings) :
    (s.acquireCycle cfg r).PatternInv cfg := by
  rw [State.PatternInv, State.acquireCycle_counter, State.acquireCycle_target, State.acquireDecide_counter]
  split
  case isTrue hsame => rw [hsame]; exact h
  case isFalse => exact Nat.zero_le _

/-- A TICK under a patterned level leaves the counter below the period, or at 0 (R172). -/
theorem State.patternTick_counter_le (s : State) (on off : Half) (motor : Bool) :
    (s.patternTick on off motor).counter.toNat ≤ on.toNat + off.toNat := by
  rw [State.patternTick_eq]
  split
  case isTrue => exact Nat.zero_le _
  case isFalse hin => rw [BitVec.toNat_ofNat]; omega

theorem State.patternInv_tickOutputs (cfg : Params) (s : State) : (s.tickOutputs cfg).PatternInv cfg := by
  rw [State.PatternInv, State.tickOutputs_target]
  cases htarget : s.target with
  | normal => rw [State.tickOutputs_normal cfg htarget]; exact Nat.zero_le _
  | warning => rw [State.tickOutputs_warning cfg htarget]; exact s.patternTick_counter_le _ _ _
  | alarm => rw [State.tickOutputs_alarm cfg htarget]; exact s.patternTick_counter_le _ _ _

theorem State.reset_patternInv : State.reset.PatternInv Config.params := Nat.zero_le _

/-- Settles O29: ACQUIRE keeps the counter or clears it, TICK wraps it, and nothing else writes it. -/
theorem stepKeepsTheCounterInThePeriod : Obligations.StepKeepsTheCounterInThePeriod := fun _ _ =>
  step_preserves (fun _ ⟨_, _, _, _, _, _, htarget, hcounter, _⟩ => State.PatternInv.congr htarget hcounter)
    State.reset_patternInv (fun _ r hs => hs.acquireCycle r) fun s _ => s.patternInv_tickOutputs _

/-! ### The fault register (R46) -/

/-- Settles O45: a step keeps the register, clears it, or writes one of the two codes. -/
theorem stepKeepsTheFaultRegisterLegal : Obligations.StepKeepsTheFaultRegisterLegal := by
  intro s t hs h
  have keeps : t.flt = s.flt → t.FltInv := fun ht => by rw [State.FltInv, ht]; exact hs
  rcases step_units h with ⟨-, ht⟩ | ⟨-, ht⟩ | ⟨-, ht⟩ | ⟨-, ht | ht⟩
  · exact .inl ht
  · exact keeps ht
  · exact keeps ht
  · exact keeps (by simpa using ht)
  · exact .inr ht

/-! ### The frame's invariant (R77, R207, R233) -/

/-- A 12-bit value has a high byte whose upper half is 0. -/
theorem highByte_upper_eq_zero {v : Half} (h : v.toNat ≤ 4095) : (highByte v).extractLsb' 4 4 = 0 := by
  have hupper : v.toNat / 256 % 256 / 16 % 16 = 0 := by omega
  apply BitVec.eq_of_toNat_eq
  simpa [highByte, BitVec.extractLsb'_toNat, Nat.shiftRight_eq_div_pow] using hupper

/-- The byte of the build buffer at an offset (R200). -/
def builtByte (cfg : Params) (seq status : Byte) (v : Channel → Half) (m : Half) (a : Offset) : Byte :=
  (frameBytes cfg seq status v m)[a.toNat]'(by have := a.isLt; simp; omega)

/-- A published frame reads as its build buffer (R202). -/
theorem State.frameByte_of_published {s : State} {cfg : Params} {seq status : Byte} {v : Channel → Half} {m : Half}
    (h : s.frame = Memory.ofBytes (frameBytes cfg seq status v m)) : s.frameByte = builtByte cfg seq status v m := by
  funext a
  rw [State.frameByte, h]
  exact Memory.read_ofBytes _ rfl a

/-- The build buffer holds a channel's low byte at the channel's offset and its high byte next to it (R71, R72). -/
theorem builtByte_channel (cfg : Params) (seq status : Byte) (v : Channel → Half) (m : Half) (c : Channel) :
    builtByte cfg seq status v m (channelOffset c) = lowByte (v c) ∧
    builtByte cfg seq status v m (channelOffset c + 1) = highByte (v c) := by
  have hc : c = 0 ∨ c = 1 ∨ c = 2 ∨ c = 3 := by revert c; decide
  rcases hc with rfl | rfl | rfl | rfl <;> exact ⟨rfl, rfl⟩

/-- A built frame passes the reader's check (R201, R256). -/
theorem readerAccepts_builtByte (seq status : Byte) (v : Channel → Half) (m : Half) :
    readerAccepts (builtByte Config.params seq status v m) = true := by
  have hsum : headXor (builtByte Config.params seq status v m) = builtByte Config.params seq status v m 14 := by
    simp [headXor, builtByte, frameBytes, frameHead, checksum]
  simp only [readerAccepts, Bool.and_eq_true, decide_eq_true_iff]
  exact ⟨⟨⟨rfl, rfl⟩, rfl⟩, hsum⟩

/-- A frame built with the status byte of a state carries that state's outputs and risk states (R71, R72, R231). -/
theorem carries_builtByte (cfg : Params) (s : State) (seq : Byte) (v : Channel → Half) (m : Half) :
    carries (builtByte cfg seq s.statusByte v m) seq s.buzzer s.motor s.tempState s.gasState v m :=
  ⟨rfl, s.statusByte_bit0, s.statusByte_bit1, s.statusByte_bit2, s.statusByte_bit3, s.statusByte_reserved,
    builtByte_channel cfg seq _ v m, rfl, rfl⟩

/-- The frame's invariant holds where the frame is a published one, built from what the block holds and from the status
byte of a state `u` with the block's risk states. -/
theorem State.frameInv_of_published {s u : State}
    (hframe : s.frame =
      Memory.ofBytes (frameBytes Config.params (s.seq - 1) u.statusByte s.filtered (s.metric Config.params)))
    (htemp : u.tempState = s.tempState) (hgas : u.gasState = s.gasState) (hfilter : s.FilterInv) :
    s.FrameInv Config.params := by
  rw [State.FrameInv, State.frameByte_of_published hframe]
  refine ⟨hframe ▸ Memory.wf_ofBytes _ (by simp), readerAccepts_builtByte _ _ _ _, fun c => ?_, u.buzzer, u.motor, ?_⟩
  · rw [(builtByte_channel _ _ _ _ _ c).2]
    exact highByte_upper_eq_zero (hfilter.filtered_le c)
  · rw [← htemp, ← hgas]
    exact carries_builtByte _ u _ _ _

/-- The frame's invariant reads the frame, the sequence number, the risk states and what FILTERED reads. -/
theorem State.FrameInv.congr {cfg : Params} {s t : State} (hframe : t.frame = s.frame) (hseq : t.seq = s.seq)
    (htemp : t.tempState = s.tempState) (hgas : t.gasState = s.gasState) (hsum : t.sum = s.sum) (hidx : t.idx = s.idx)
    (hfilled : t.filled = s.filled) (h : s.FrameInv cfg) : t.FrameInv cfg := by
  have hbyte : t.frameByte = s.frameByte := by unfold State.frameByte; rw [hframe]
  unfold State.FrameInv
  rw [hbyte, hframe, hseq, htemp, hgas, State.filtered_congr hsum hidx hfilled, State.metric_congr cfg hsum hidx hfilled]
  exact h

/-- ACQUIRE publishes what it leaves in the filter and the classifier (R233). -/
theorem State.FilterInv.frameInv_acquireCycle {s : State} (h : s.FilterInv) (r : Readings) :
    (s.acquireCycle Config.params r).FrameInv Config.params := by
  refine State.frameInv_of_published (u := s.acquireDecide Config.params r) ?_ (by simp) (by simp) (h.acquireCycle r)
  have hfiltered : (s.acquireCycle Config.params r).filtered = (s.ingest r).filtered :=
    State.filtered_congr (by simp) (by simp) (by simp)
  have hmetric : (s.acquireCycle Config.params r).metric Config.params = (s.ingest r).metric Config.params :=
    State.metric_congr _ (by simp) (by simp) (by simp)
  have hseq : (s.acquireCycle Config.params r).seq - 1 = s.seq := by simp
  rw [State.acquireCycle_frame, hfiltered, hmetric, hseq]

/-- The zero frame is what BUILD makes of an empty filter, with sequence number 0 (R203). -/
theorem State.reset_frameInv : State.reset.FrameInv Config.params := by
  refine State.frameInv_of_published (u := State.reset) ?_ rfl rfl State.reset_filterEmpty.filterInv
  have hfiltered : State.reset.filtered = fun _ => 0#16 := rfl
  have hmetric : State.reset.metric Config.params = 0#16 := by simp [State.metric, State.metricExact, hfiltered]
  rw [hfiltered, hmetric]
  exact zeroFrame_canonical.symm

/-- The filter's and the frame's invariants together, since ACQUIRE's high bytes rest on the sums. -/
theorem step_keeps_frameInv {s t : State} (hfilter : s.FilterInv) (hframe : s.FrameInv Config.params)
    (h : step s = .next t) : t.FrameInv Config.params := by
  have hboth : t.FilterInv ∧ t.FrameInv Config.params := by
    refine step_preserves (P := fun s => s.FilterInv ∧ s.FrameInv Config.params) ?_
      ⟨State.reset_filterEmpty.filterInv, State.reset_frameInv⟩ ?_ ?_ ⟨hfilter, hframe⟩ h
    · rintro s t _ ⟨hhist, hsum, hidx, hfilled, htemp, hgas, -, -, -, -, hmem, hseq, -⟩ ⟨hs, hf⟩
      exact ⟨hs.congr hhist hsum hidx hfilled, hf.congr hmem hseq htemp hgas hsum hidx hfilled⟩
    · exact fun s r ⟨hs, _⟩ => ⟨hs.acquireCycle r, hs.frameInv_acquireCycle r⟩
    · exact fun s ⟨hs, hf⟩ => ⟨hs.congr (by simp) (by simp) (by simp) (by simp),
        hf.congr (by simp) (by simp) (by simp) (by simp) (by simp) (by simp) (by simp)⟩
  exact hboth.2

/-! ### The block's invariant -/

/-- Every step keeps `S.target = COMBINED` (R234). -/
theorem step_keeps_target_eq_combined {s t : State} (hs : s.target = s.combined) (h : step s = .next t) :
    t.target = t.combined := by
  refine step_preserves (P := fun s => s.target = s.combined) ?_ rfl ?_ ?_ hs h
  · rintro s t _ ⟨-, -, -, -, htemp, hgas, htarget, -⟩ hs
    rw [State.combined, htarget, htemp, hgas]
    exact hs
  · intro s r _
    rw [State.combined, State.acquireCycle_target, State.acquireCycle_tempState, State.acquireCycle_gasState,
      State.acquireDecide_target]
  · intro s hs
    rw [State.combined, State.tickOutputs_target, State.tickOutputs_tempState, State.tickOutputs_gasState]
    exact hs

/-- Settles O49, part by part. -/
theorem stepKeepsTheBlockInvariant : Obligations.StepKeepsTheBlockInvariant := by
  rintro s t ⟨hfilter, hframe, hpattern, hflt, htarget⟩ h
  exact ⟨step_keeps_filterInv hfilter h, step_keeps_frameInv hfilter hframe h,
    stepKeepsTheCounterInThePeriod s t hpattern h, stepKeepsTheFaultRegisterLegal s t hflt h,
    step_keeps_target_eq_combined htarget h⟩

/-- Settles O50. -/
theorem resetStateMeetsTheInvariant : Obligations.ResetStateMeetsTheInvariant :=
  ⟨State.reset_filterEmpty.filterInv, State.reset_frameInv, State.reset_patternInv, .inl rfl, rfl⟩

/-! ### The reset values (R292) -/

/-- The reset frame, which lists nothing, reads as the zero frame (R203). -/
theorem State.reset_frameByte (a : Offset) :
    State.reset.frameByte a =
      (#v[0xAA, 0x55, 0x00, 0x00, 0x00, 0x00, 0x00, 0x00, 0x00, 0x00, 0x00, 0x00, 0x00, 0x00, 0xFF, 0x0D] :
        Vector Byte 16)[a.toNat]'(a.isLt) := by
  revert a
  decide

/-- Settles O46: the filter is empty, the frame is the zero frame, and every other register is written in
`State.reset`. -/
theorem resetStateHoldsTheResetValues : Obligations.ResetStateHoldsTheResetValues := by
  obtain ⟨hzero, hidx, hfilled⟩ := State.reset_filterEmpty
  have hpending : ∀ p, State.reset.pending p = false := fun p => by cases p <;> rfl
  exact ⟨⟨hzero, hidx, hfilled, rfl, rfl, rfl, rfl, rfl, rfl, rfl, rfl, State.reset_frameByte, rfl, rfl, hpending⟩,
    State.reset_frame_wf⟩

/-! ### The capture of a request (R258) -/

/-- Settles O10: `State.raise` is one such case for each port. -/
theorem requestIsCapturedOrLost : Obligations.RequestIsCapturedOrLost := by
  intro s w r
  refine ⟨?acq, ?xport, ?tick, ?query⟩
  case acq => rfl
  case xport => rfl
  case tick => rfl
  case query => rfl

/-! ### The risk queries (R155 to R157) -/

/-- A query served while the block is not faulted returns its value and changes nothing else (R91, R253). -/
theorem State.unlessFaulted_returnQ {s : State} (h : s.faulted = false) (v : Half) (consumed : State) :
    s.unlessFaulted (s.returnQ v) consumed = .next { s with qData := v, qValid := true, xValid := false } :=
  State.unlessFaulted_running h _ _

theorem zextLevel_eq (l : RiskLevel) : zextLevel l = BitVec.ofNat 16 l.code.toNat := by
  cases l <;> rfl

/-- COMBINED's code is the greater of the two codes (R38, R154). -/
theorem code_max_toNat (a b : RiskLevel) : (a.max b).code.toNat = max a.code.toNat b.code.toNat := by
  unfold RiskLevel.max
  split
  case isTrue hle => rw [BitVec.le_def] at hle; omega
  case isFalse hlt => rw [BitVec.le_def] at hlt; omega

/-- Settles O25: each query returns the zero-extended code of its level, and COMBINED's code is the maximum. -/
theorem rdRiskReturnsTheLevelCode : Obligations.RdRiskReturnsTheLevelCode := by
  unfold Obligations.RdRiskReturnsTheLevelCode
  intro code s hrun
  have hcode : ∀ l : RiskLevel, code l = l.code.toNat := fun l => by cases l <;> rfl
  rw [hcode, hcode, ← code_max_toNat, ← zextLevel_eq, ← zextLevel_eq, ← zextLevel_eq]
  exact ⟨State.unlessFaulted_returnQ hrun _ _, State.unlessFaulted_returnQ hrun _ _,
    State.unlessFaulted_returnQ hrun _ _⟩

end Sys2Proof.Machine

/-! PROOF. Storage as the memory chapter sees it (20_memory.md): the frame ACQUIRE publishes (R71, R72, R200, R201), the
frame as an old one or a whole new one (R77), queries without side effect (R76), and the writers of each piece of state
(R79). -/

namespace Sys2Proof.Machine

/-! ### The published frame (R71, R72, R77, R256) -/

/-- The reader's check, as equations (R256). -/
theorem readerAccepts_iff (f : Offset → Byte) :
    readerAccepts f = true ↔ f 0 = 0xAA ∧ f 1 = 0x55 ∧ f 15 = 0x0D ∧ headXor f = f 14 := by
  simp only [readerAccepts, Bool.and_eq_true, decide_eq_true_iff, and_assoc]

theorem State.frameByte_congr {s t : State} (hframe : t.frame = s.frame) : t.frameByte = s.frameByte := by
  unfold State.frameByte
  rw [hframe]

/-- The filtered values after ACQUIRE are those after its INGEST: the rest of the cycle leaves the filter (R230). -/
theorem State.acquireCycle_filtered (s : State) (cfg : Params) (r : Readings) :
    (s.acquireCycle cfg r).filtered = (s.ingest r).filtered :=
  State.filtered_congr (by simp) (by simp) (by simp)

theorem State.acquireCycle_metric (s : State) (cfg : Params) (r : Readings) :
    (s.acquireCycle cfg r).metric cfg = (s.ingest r).metric cfg :=
  State.metric_congr cfg (by simp) (by simp) (by simp)

/-- ACQUIRE's frame carries the old seq, the outputs as they were, and the risk states, filtered values and metric that
ACQUIRE leaves (R230, R231). -/
theorem State.carries_acquireCycle (s : State) (cfg : Params) (r : Readings) :
    carries (s.acquireCycle cfg r).frameByte s.seq s.buzzer s.motor (s.acquireCycle cfg r).tempState
      (s.acquireCycle cfg r).gasState (s.acquireCycle cfg r).filtered ((s.acquireCycle cfg r).metric cfg) := by
  rw [State.frameByte_of_published (s.acquireCycle_frame cfg r), State.acquireCycle_filtered, State.acquireCycle_metric]
  simpa using carries_builtByte cfg (s.acquireDecide cfg r) s.seq (s.ingest r).filtered ((s.ingest r).metric cfg)

theorem State.acquireCycle_frame_wf (s : State) (cfg : Params) (r : Readings) :
    Memory.wf (s.acquireCycle cfg r).frame = true := by
  rw [State.acquireCycle_frame]
  exact Memory.wf_ofBytes _ (by simp)

theorem State.readerAccepts_acquireCycle (s : State) (r : Readings) :
    readerAccepts (s.acquireCycle Config.params r).frameByte = true := by
  rw [State.frameByte_of_published (s.acquireCycle_frame Config.params r)]
  exact readerAccepts_builtByte _ _ _ _

/-- Settles O31: the reader's check gives the constants and the checksum, the layout gives every other byte. -/
theorem acquirePublishesTheFrame : Obligations.AcquirePublishesTheFrame := by
  intro s hrun
  obtain ⟨hsync0, hsync1, hend, hsum⟩ := (readerAccepts_iff _).1 (s.readerAccepts_acquireCycle s.acqData)
  exact ⟨(s.acquireCycle Config.params s.acqData).returnNothing, State.unlessFaulted_running hrun _ _,
    hsync0, hsync1, hend, hsum.symm, s.carries_acquireCycle Config.params s.acqData, by simp, by simp⟩

/-- Settles O37: of what a step can do to the units, only RESET and ACQUIRE write the frame, each all of it. -/
theorem frameIsOldOrWhollyNew : Obligations.FrameIsOldOrWhollyNew := by
  intro s t h
  have whole : ∀ {u : State}, u.SameUnits t → Memory.wf u.frame = true → readerAccepts u.frameByte = true →
      Memory.wf t.frame = true ∧ readerAccepts t.frameByte = true := by
    rintro u ⟨-, -, -, -, -, -, -, -, -, -, hframe, -⟩ hwf hreader
    rw [State.frameByte_congr hframe, hframe]
    exact ⟨hwf, hreader⟩
  rcases step_units h with ⟨ht, -⟩ | ⟨ht, -⟩ | ⟨ht, -⟩ | ⟨⟨c, ht⟩, -⟩
  case inl =>
    obtain ⟨hwf, hreader, -⟩ := State.reset_frameInv
    exact .inr (whole ht hwf hreader)
  case inr.inl => exact .inr (whole ht (State.acquireCycle_frame_wf _ _ _) (State.readerAccepts_acquireCycle _ _))
  case inr.inr.inl =>
    obtain ⟨-, -, -, -, -, -, -, -, -, -, hframe, -⟩ := ht
    exact .inl (by simpa using hframe)
  case inr.inr.inr =>
    obtain ⟨-, -, -, -, -, -, -, -, -, -, hframe, -⟩ := ht
    exact .inl (by simpa using hframe)

/-! ### Query commands (R76) -/

theorem State.sameUnits_returnQ (s : State) (v : Half) : s.SameUnits (s.returnQ v) := by simp [State.SameUnits]

theorem State.sameLatches_returnQ (s : State) (v : Half) : s.SameLatches (s.returnQ v) :=
  ⟨fun p => by cases p <;> exact ⟨rfl, rfl⟩, rfl⟩

/-- A channel operand in range selects a channel (R93). -/
theorem channelOperand_of_wellFormed {c : BitVec 4} (h : (Instr.rdFiltered c).wellFormed = true) :
    channelOperand c = some (c.extractLsb' 0 2) :=
  if_pos (of_decide_eq_true h)

/-- A channel operand selects no channel only where it is above 3 (R93). -/
theorem lt_toNat_of_channelOperand_eq_none {c : BitVec 4} (h : channelOperand c = none) : 3 < c.toNat := by
  unfold channelOperand at h
  split at h
  case isTrue => cases h
  case isFalse hrange => omega

/-- A well-formed query returns a value that does not read the data outputs or the strobes, and does no more. -/
theorem exec_query {i : Instr} (hquery : (encode i).1 = .query) (hwf : i.wellFormed = true) :
    ∃ value : State → Half, (∀ s v, value (s.returnQ v) = value s) ∧
      ∀ s : State, s.faulted = false → exec i s = .next (s.returnQ (value s)) := by
  cases i with
  | acquire | tick | drain | resetCursor => cases hquery
  | rdFrame i =>
    exact ⟨fun s => zextByte (s.frameByte (byteIndexOperand i)), fun _ _ => rfl,
      fun _ hrun => State.unlessFaulted_running hrun _ _⟩
  | rdFiltered c =>
    refine ⟨fun s => s.filtered (c.extractLsb' 0 2), fun _ _ => rfl, fun s hrun => ?_⟩
    have hserved := State.unlessFaulted_running hrun (s.returnQ (s.filtered (c.extractLsb' 0 2))) s.returnAnyQ
    simpa only [exec, execRdFiltered, channelOperand_of_wellFormed hwf] using hserved
  | rdMetric =>
    exact ⟨fun s => s.metric Config.params, fun _ _ => rfl, fun _ hrun => State.unlessFaulted_running hrun _ _⟩
  | rdRiskTemp =>
    exact ⟨fun s => zextLevel s.tempState, fun _ _ => rfl, fun _ hrun => State.unlessFaulted_running hrun _ _⟩
  | rdRiskGas =>
    exact ⟨fun s => zextLevel s.gasState, fun _ _ => rfl, fun _ hrun => State.unlessFaulted_running hrun _ _⟩
  | rdRiskComb =>
    exact ⟨fun s => zextLevel s.combined, fun _ _ => rfl, fun _ hrun => State.unlessFaulted_running hrun _ _⟩
  | rdBuzzer =>
    exact ⟨fun s => zextBit s.buzzer, fun _ _ => rfl, fun _ hrun => State.unlessFaulted_running hrun _ _⟩
  | rdMotor =>
    exact ⟨fun s => zextBit s.motor, fun _ _ => rfl, fun _ hrun => State.unlessFaulted_running hrun _ _⟩
  | rdFault => exact ⟨fun s => zextFlt s.flt, fun _ _ => rfl, fun _ _ => rfl⟩

/-- Settles O41: the second query reads what the first read, and both write no more than the QUERY output. -/
theorem queriesAreIdempotent : Obligations.QueriesAreIdempotent := by
  intro s t u i hrun hquery hwf hfirst hsecond
  obtain ⟨value, hvalue, hexec⟩ := exec_query hquery hwf
  obtain rfl : s.returnQ (value s) = t := Host.Outcome.next.inj ((hexec s hrun).symm.trans hfirst)
  obtain rfl : (s.returnQ (value s)).returnQ (value (s.returnQ (value s))) = u :=
    Host.Outcome.next.inj ((hexec (s.returnQ (value s)) hrun).symm.trans hsecond)
  exact ⟨hvalue s _, rfl, rfl, (s.sameUnits_returnQ _).trans (State.sameUnits_returnQ _ _),
    s.sameLatches_returnQ _, rfl⟩

/-! ### The writers of each piece of state (R79) -/

/-- The command a step serves, where RESET is low, a latch is set and its word is a command (R253, R259). -/
theorem State.serving_command {s : State} {p : Port} {i : Instr} (hr : s.inputs.reset = false)
    (hp : s.latched.nextPort = some p) (hd : decode p (s.latched.command p) = .command i) (hrun : s.faulted = false) :
    s.serving = some i := by
  simp [State.serving, State.nextService_command hr hp hd, hrun]

/-- Latching the inputs does not touch the fault register. -/
theorem State.faulted_latched (s : State) : s.latched.faulted = s.faulted := by simp [State.faulted]

/-- What a step without RESET does to the units, by the command it serves: ACQUIRE's cycle, TICK's outputs, a transport
command's cursor, or nothing. -/
theorem step_units_of_serving {s t : State} (hr : s.inputs.reset = false) (h : step s = .next t) :
    (s.serving = some .acquire ∧ (s.latched.acquireCycle Config.params s.latched.acqData).SameUnits t) ∨
    (s.serving = some .tick ∧ (s.latched.tickOutputs Config.params).SameUnits t) ∨
    ((s.serving = some .drain ∨ s.serving = some .resetCursor) ∧ ∃ c, (s.withCursor c).SameUnits t) ∨
    s.SameUnits t := by
  rcases step_cases h with ⟨hreset, -⟩ | ⟨-, -, rfl⟩ | ⟨p, -, -, -, -, rfl⟩ | ⟨p, i, u, -, hp, hd, hu, rfl⟩
  case inl => rw [hr] at hreset; cases hreset
  case inr.inl => exact .inr (.inr (.inr s.sameUnits_latched))
  case inr.inr.inl => exact .inr (.inr (.inr (by simp [State.SameUnits])))
  case inr.inr.inr =>
    have hserving := fun hrun : s.latched.faulted = false =>
      State.serving_command hr hp hd (s.faulted_latched ▸ hrun)
    rcases exec_cases hu with ⟨rfl, hrun, rfl⟩ | ⟨rfl, hrun, rfl⟩ | ⟨rfl, hrun, rfl⟩ | ⟨rfl, hrun, rfl⟩ |
      ⟨_, _, _, _, _, _, rfl, -⟩
    · exact .inl ⟨hserving hrun, (State.sameUnits_returnNothing _).trans (State.sameUnits_clearLatch _ p)⟩
    · exact .inr (.inl ⟨hserving hrun, (State.sameUnits_returnNothing _).trans (State.sameUnits_clearLatch _ p)⟩)
    · exact .inr (.inr (.inl ⟨.inl (hserving hrun), s.cursor + 1, by simp [State.SameUnits]⟩))
    · exact .inr (.inr (.inl ⟨.inr (hserving hrun), 0, by simp [State.SameUnits]⟩))
    · exact .inr (.inr (.inr (by simp [State.SameUnits])))

/-- What a step that serves no ACQUIRE leaves: filter, risk states, target, seq and frame (R79). -/
theorem step_keeps_acquired {s t : State} (hr : s.inputs.reset = false) (h : step s = .next t)
    (hno : s.serving ≠ some .acquire) :
    t.hist = s.hist ∧ t.sum = s.sum ∧ t.idx = s.idx ∧ t.filled = s.filled ∧ t.tempState = s.tempState ∧
    t.gasState = s.gasState ∧ t.target = s.target ∧ t.seq = s.seq ∧ t.frame = s.frame := by
  rcases step_units_of_serving hr h with ⟨hyes, -⟩ | ⟨-, ht⟩ | ⟨-, c, ht⟩ | ht
  · exact absurd hyes hno
  all_goals
    obtain ⟨h1, h2, h3, h4, h5, h6, h7, -, -, -, h11, h12, -⟩ := ht
    simp [h1, h2, h3, h4, h5, h6, h7, h11, h12]

/-- What a step that serves no TICK leaves: the outputs, and the counter but for SET_TARGET's restart (R79, R171). -/
theorem step_keeps_ticked {s t : State} (hr : s.inputs.reset = false) (h : step s = .next t)
    (hno : s.serving ≠ some .tick) :
    t.buzzer = s.buzzer ∧ t.motor = s.motor ∧ (t.counter = s.counter ∨ t.counter = 0) := by
  rcases step_units_of_serving hr h with ⟨-, ht⟩ | ⟨hyes, -⟩ | ⟨-, c, ht⟩ | ht
  case inr.inl => exact absurd hyes hno
  all_goals obtain ⟨-, -, -, -, -, -, -, hcounter, hbuzzer, hmotor, -⟩ := ht
  case inl =>
    refine ⟨by simp [hbuzzer], by simp [hmotor], ?_⟩
    rw [hcounter, State.acquireCycle_counter, State.acquireDecide_counter]
    split
    case isTrue => exact .inl s.latched_counter
    case isFalse => exact .inr rfl
  case inr.inr.inl => exact ⟨hbuzzer, hmotor, .inl hcounter⟩
  case inr.inr.inr => exact ⟨hbuzzer, hmotor, .inl hcounter⟩

/-- The counter is TICK's and ACQUIRE's (R79). -/
theorem step_keeps_counter {s t : State} (hr : s.inputs.reset = false) (h : step s = .next t)
    (hnoTick : s.serving ≠ some .tick) (hnoAcquire : s.serving ≠ some .acquire) : t.counter = s.counter := by
  rcases step_units_of_serving hr h with ⟨hyes, -⟩ | ⟨hyes, -⟩ | ⟨-, c, ht⟩ | ht
  · exact absurd hyes hnoAcquire
  · exact absurd hyes hnoTick
  all_goals
    obtain ⟨-, -, -, -, -, -, -, hcounter, -⟩ := ht
    exact hcounter

/-- The cursor is DRAIN's, RESET_CURSOR's and ACQUIRE's (R79). -/
theorem step_keeps_cursor {s t : State} (hr : s.inputs.reset = false) (h : step s = .next t)
    (hnoDrain : s.serving ≠ some .drain) (hnoReset : s.serving ≠ some .resetCursor)
    (hnoAcquire : s.serving ≠ some .acquire) : t.cursor = s.cursor := by
  rcases step_units_of_serving hr h with ⟨hyes, -⟩ | ⟨-, ht⟩ | ⟨hyes | hyes, -⟩ | ht
  · exact absurd hyes hnoAcquire
  · obtain ⟨-, -, -, -, -, -, -, -, -, -, -, -, hcursor⟩ := ht
    simpa using hcursor
  · exact absurd hyes hnoDrain
  · exact absurd hyes hnoReset
  · obtain ⟨-, -, -, -, -, -, -, -, -, -, -, -, hcursor⟩ := ht
    exact hcursor

/-- A command leaves the fault register as it was, unless it is RD_FILTERED out of range on a block not faulted
(R125, R251). -/
theorem exec_flt {i : Instr} {s t : State} (h : exec i s = .next t) :
    t.flt = s.flt ∨ (s.faulted = false ∧ ∃ c, i = .rdFiltered c ∧ 3 < c.toNat ∧ t.flt = 0b101) := by
  cases i
  case rdFault => cases h; exact .inl rfl
  case rdFiltered c =>
    rcases State.unlessFaulted_cases h with ⟨hrun, rfl⟩ | ⟨-, rfl⟩
    · cases hc : channelOperand c with
      | some ch => exact .inl rfl
      | none =>
        refine .inr ⟨hrun, c, rfl, lt_toNat_of_channelOperand_eq_none hc, ?_⟩
        simp [State.faultOn, State.raiseFault_eq, hrun, FaultCause.code]
    · exact .inl rfl
  all_goals
    rcases State.unlessFaulted_cases h with ⟨-, rfl⟩ | ⟨-, rfl⟩ <;> exact .inl (by simp)

/-- An illegal word writes ILLEGAL_COMMAND on a block not faulted, and nothing on a faulted one (R96, R251). -/
theorem State.serveIllegal_flt (s : State) (p : Port) :
    (s.serveIllegal p).flt = if s.faulted then s.flt else 0b011 := by
  simp [State.serveIllegal, State.faultOn, State.raiseFault_eq, FaultCause.code]

/-- The fault register is written by an illegal word or by RD_FILTERED out of range, on a block not faulted (R79). -/
theorem step_flt_ne {s t : State} (hr : s.inputs.reset = false) (h : step s = .next t) (hne : t.flt ≠ s.flt) :
    s.faulted = false ∧
      ((∃ p why, s.latched.nextPort = some p ∧ decode p (s.latched.command p) = .illegal why ∧ t.flt = 0b011) ∨
       (∃ c, s.serving = some (.rdFiltered c) ∧ 3 < c.toNat ∧ t.flt = 0b101)) := by
  rcases step_cases h with ⟨hreset, -⟩ | ⟨-, -, rfl⟩ | ⟨p, why, -, hp, hd, rfl⟩ | ⟨p, i, u, -, hp, hd, hu, rfl⟩
  case inl => rw [hr] at hreset; cases hreset
  case inr.inl => exact absurd s.latched_flt hne
  case inr.inr.inl =>
    rw [State.clearLatch_flt, State.serveIllegal_flt, State.faulted_latched] at hne ⊢
    cases hrun : s.faulted
    · exact ⟨rfl, .inl ⟨p, why, hp, hd, rfl⟩⟩
    · simp [hrun] at hne
  case inr.inr.inr =>
    rw [State.clearLatch_flt] at hne ⊢
    rcases exec_flt hu with hsame | ⟨hrun, c, rfl, hc, hflt⟩
    · exact absurd (hsame.trans s.latched_flt) hne
    · rw [State.faulted_latched] at hrun
      exact ⟨hrun, .inr ⟨c, State.serving_command hr hp hd hrun, hc, hflt⟩⟩

/-- A command leaves every latch set: its completion, not its meaning, clears the one served (R258, R261). -/
theorem exec_pending {i : Instr} {s t : State} (h : exec i s = .next t) (p : Port) : t.pending p = s.pending p := by
  rcases exec_cases h with ⟨-, -, rfl⟩ | ⟨-, -, rfl⟩ | ⟨-, -, rfl⟩ | ⟨-, -, rfl⟩ | ⟨_, _, _, _, _, _, rfl, -⟩ <;>
    cases p <;> simp [State.pending]

theorem State.serveIllegal_pending (s : State) (p q : Port) : (s.serveIllegal p).pending q = s.pending q := by
  cases q <;> simp [State.pending]

/-- A step without RESET clears the latch of the port served and no other (R258). -/
theorem step_pending {s t : State} (hr : s.inputs.reset = false) (h : step s = .next t) (q : Port) :
    t.pending q = (s.latched.pending q && decide (s.latched.nextPort ≠ some q)) := by
  have hport : ∀ p, decide (q ≠ p) = decide (some p ≠ some q) := fun p => by simp [eq_comm]
  rcases step_cases h with ⟨hreset, -⟩ | ⟨-, hp, rfl⟩ | ⟨p, -, -, hp, -, rfl⟩ | ⟨p, i, u, -, hp, -, hu, rfl⟩
  · rw [hr] at hreset; cases hreset
  · simp [hp]
  · rw [State.clearLatch_pending, State.serveIllegal_pending, hp, hport]
  · rw [State.clearLatch_pending, exec_pending hu, hp, hport]

/-- Settles O48, one lemma for each row of R79's table. -/
theorem singleWriterOwnership : Obligations.SingleWriterOwnership := by
  intro s t hr h
  exact ⟨step_keeps_acquired hr h, step_keeps_ticked hr h, step_keeps_counter hr h, step_keeps_cursor hr h,
    step_flt_ne hr h, step_pending hr h⟩

end Sys2Proof.Machine

/-! PROOF. The encoding (30_encoding.md): the decoder's three checks (R92 to R97), the agreement of decoder and encoder
(R94), the service of an illegal word (R96), RESET_CURSOR (R206), and the service of a request program (R102 to R104). -/

namespace Sys2Proof

/-! ### The fields of a word and the encoding table (R92 to R94) -/

/-- OP as a number (R92). -/
theorem opField_toNat (w : Byte) : (opField w).toNat = w.toNat / 16 := by
  have := w.isLt
  simp only [opField, BitVec.extractLsb'_toNat, Nat.shiftRight_eq_div_pow]
  omega

/-- SEL as a number (R92). -/
theorem selField_toNat (w : Byte) : (selField w).toNat = w.toNat % 16 := by
  simp [selField]

/-- A word as a number, by its two fields (R92). -/
theorem append_fields_toNat (op sel : BitVec 4) : (op ++ sel).toNat = op.toNat * 16 + sel.toNat := by
  rw [BitVec.toNat_append, ← Nat.shiftLeft_add_eq_or_of_lt sel.isLt, Nat.shiftLeft_eq]

/-- A word is no more than its two fields (R92). -/
theorem opField_append_selField (w : Byte) : opField w ++ selField w = w := by
  apply BitVec.eq_of_toNat_eq
  rw [append_fields_toNat, opField_toNat, selField_toNat]
  omega

/-- R94's port of each operation code that is not reserved (R96). -/
theorem opPort_eq (op : BitVec 4) :
    opPort op =
      if op.toNat = 0 ∨ 0xB ≤ op.toNat then none
      else some (if op.toNat = 1 then .acq else if op.toNat = 2 then .tick
        else if op.toNat = 3 ∨ op.toNat = 4 then .xport else .query) := by
  revert op
  decide

/-- The table has no command for a reserved OP, for a SEL other than 0 where R93 fixes it, and past the three SELs of OP 8
and the two of OP 9 (R94, R96). -/
theorem commandOf_eq_none_iff (op sel : BitVec 4) :
    commandOf op sel = none ↔
      (op.toNat = 0 ∨ 0xB ≤ op.toNat) ∨
      ((op.toNat = 1 ∨ op.toNat = 2 ∨ op.toNat = 3 ∨ op.toNat = 4 ∨ op.toNat = 7 ∨ op.toNat = 0xA) ∧ sel.toNat ≠ 0) ∨
      (op.toNat = 8 ∧ 3 ≤ sel.toNat) ∨ (op.toNat = 9 ∧ 2 ≤ sel.toNat) := by
  revert op sel
  decide

/-- Every row of the table: the OP's port is the command's, and OP and SEL make the command's word (R94). -/
theorem encode_of_commandOf {op sel : BitVec 4} {i : Instr} (h : commandOf op sel = some i) :
    opPort op = some (encode i).1 ∧ (encode i).2 = op ++ sel := by
  unfold commandOf at h
  split at h
  case h_14 => cases h
  all_goals
    cases h
    exact ⟨by simp only [opPort, encode, *], BitVec.eq_of_toNat_eq (by simp [encode, append_fields_toNat, *])⟩

/-! ### The outcomes of the decoder (R97, R98) -/

/-- What the decoder answers, by the first check that fails (R97). -/
theorem decode_cases (p : Port) (w : Byte) :
    (opPort (opField w) = none ∧ decode p w = .illegal .reservedOp) ∨
    (∃ q, opPort (opField w) = some q ∧ p ≠ q ∧ decode p w = .illegal .wrongPort) ∨
    (opPort (opField w) = some p ∧ commandOf (opField w) (selField w) = none ∧ decode p w = .illegal .illegalSel) ∨
    (∃ i, opPort (opField w) = some p ∧ commandOf (opField w) (selField w) = some i ∧ decode p w = .command i) := by
  unfold decode
  cases hport : opPort (opField w) with
  | none => exact .inl ⟨rfl, rfl⟩
  | some q =>
    by_cases hpq : p = q
    · subst hpq
      cases hcommand : commandOf (opField w) (selField w) with
      | none => exact .inr (.inr (.inl ⟨rfl, rfl, by simp⟩))
      | some i => exact .inr (.inr (.inr ⟨i, rfl, rfl, by simp⟩))
    · exact .inr (.inl ⟨q, rfl, hpq, if_neg hpq⟩)

theorem decode_eq_command_iff {p : Port} {w : Byte} {i : Instr} :
    decode p w = .command i ↔ opPort (opField w) = some p ∧ commandOf (opField w) (selField w) = some i := by
  rcases decode_cases p w with ⟨hport, hd⟩ | ⟨q, hport, hpq, hd⟩ | ⟨hport, hc, hd⟩ | ⟨j, hport, hc, hd⟩
  · simp [hport, hd]
  · simp [hport, hd, Ne.symm hpq]
  · simp [hc, hd]
  · simp [hport, hc, hd]

theorem decode_eq_reservedOp_iff {p : Port} {w : Byte} :
    decode p w = .illegal .reservedOp ↔ opPort (opField w) = none := by
  rcases decode_cases p w with ⟨hport, hd⟩ | ⟨q, hport, -, hd⟩ | ⟨hport, -, hd⟩ | ⟨j, hport, -, hd⟩ <;>
    simp [hport, hd]

theorem decode_eq_wrongPort_iff {p : Port} {w : Byte} :
    decode p w = .illegal .wrongPort ↔ ∃ q, opPort (opField w) = some q ∧ p ≠ q := by
  rcases decode_cases p w with ⟨hport, hd⟩ | ⟨q, hport, hpq, hd⟩ | ⟨hport, -, hd⟩ | ⟨j, hport, -, hd⟩
  case inr.inl => simp [hport, hpq, hd]
  all_goals simp [hport, hd]

theorem decode_eq_illegalSel_iff {p : Port} {w : Byte} :
    decode p w = .illegal .illegalSel ↔
      opPort (opField w) = some p ∧ commandOf (opField w) (selField w) = none := by
  rcases decode_cases p w with ⟨hport, hd⟩ | ⟨q, hport, hpq, hd⟩ | ⟨hport, hc, hd⟩ | ⟨j, hport, hc, hd⟩
  · simp [hport, hd]
  · simp [hport, hd, Ne.symm hpq]
  · simp [hport, hc, hd]
  · simp [hc, hd]

/-! ### Decoder and encoder (R92, R94, R97) -/

/-- A command's word on the command's port decodes to it. -/
theorem decode_encode (i : Instr) : decode (encode i).1 (encode i).2 = .command i := by
  cases i with
  | acquire => exact Laws.RoundTrip.acquire
  | tick => exact Laws.RoundTrip.tick
  | drain => exact Laws.RoundTrip.drain
  | resetCursor => exact Laws.RoundTrip.resetCursor
  | rdFrame i => exact Laws.RoundTrip.rdFrame i
  | rdFiltered c => exact Laws.RoundTrip.rdFiltered c
  | rdMetric => exact Laws.RoundTrip.rdMetric
  | rdRiskTemp => exact Laws.RoundTrip.rdRiskTemp
  | rdRiskGas => exact Laws.RoundTrip.rdRiskGas
  | rdRiskComb => exact Laws.RoundTrip.rdRiskComb
  | rdBuzzer => exact Laws.RoundTrip.rdBuzzer
  | rdMotor => exact Laws.RoundTrip.rdMotor
  | rdFault => exact Laws.RoundTrip.rdFault

/-- A word that decodes to a command is that command's word, on its port. -/
theorem encode_of_decode {p : Port} {w : Byte} {i : Instr} (h : decode p w = .command i) : encode i = (p, w) := by
  obtain ⟨hport, hcommand⟩ := decode_eq_command_iff.1 h
  obtain ⟨hport', hword⟩ := encode_of_commandOf hcommand
  have hp : (encode i).1 = p := Option.some.inj (hport'.symm.trans hport)
  exact Prod.ext hp (hword.trans (opField_append_selField w))

/-- Settles O1: the table's row gives a command its port and its word, and the round trip of each command the converse. -/
theorem decodeEncodeAgree : Obligations.DecodeEncodeAgree := by
  intro p w i
  constructor
  · exact encode_of_decode
  · intro h
    have hround := decode_encode i
    rwa [h] at hround

/-- Settles O2: each outcome of the decoder is the first check that fails, and the table's checks are R97's on OP and SEL
as numbers. -/
theorem decodeChecksInOrder : Obligations.DecodeChecksInOrder := by
  intro p w op sel reserved port badSel
  have hport : opPort (opField w) = if reserved then none else some port := by
    rw [opPort_eq, opField_toNat]
  have hcommand : commandOf (opField w) (selField w) = none ↔ reserved ∨ badSel := by
    rw [commandOf_eq_none_iff, opField_toNat, selField_toNat]
  rw [decode_eq_reservedOp_iff, decode_eq_wrongPort_iff, decode_eq_illegalSel_iff, hport, hcommand]
  by_cases hreserved : reserved
  · simp [hreserved]
  · simp [hreserved, eq_comm]

/-- Settles O3: a command's word decodes by O1, an illegal one fails the check of R97 that its outcome names. -/
theorem specWordsDecode : Obligations.SpecWordsDecode :=
  ⟨decode_encode .acquire, decode_encode .tick, decode_encode .drain, decode_encode .resetCursor,
    decode_encode (.rdFrame 15), decode_encode (.rdFiltered 3), decode_encode .rdMetric, decode_encode .rdRiskComb,
    decode_encode .rdMotor, decode_encode .rdFault,
    decode_eq_wrongPort_iff.2 ⟨.acq, rfl, nofun⟩, decode_eq_illegalSel_iff.2 ⟨rfl, rfl⟩,
    decode_eq_reservedOp_iff.2 rfl⟩

end Sys2Proof

namespace Sys2Proof.Machine

/-! ### RESET_CURSOR (R206) -/

/-- Settles O35: the command writes the cursor and returns no value on XPORT. -/
theorem resetCursorRestartsTheDrain : Obligations.ResetCursorRestartsTheDrain := by
  intro s hrun
  exact ⟨(s.withCursor 0).returnNoValue .xport, State.unlessFaulted_running hrun _ _, rfl⟩

/-! ### The service of an illegal word (R96, R251) -/

/-- A step that serves an illegal word raises the fault and clears the word's latch (R96, R258). -/
theorem step_of_illegal {s : State} {p : Port} {why : Illegal} (hr : s.inputs.reset = false)
    (hp : s.latched.nextPort = some p) (hd : decode p (s.latched.command p) = .illegal why) :
    step s = .next ((s.latched.serveIllegal p).clearLatch p) := by
  rw [step, State.nextService_illegal hr hp hd]
  rfl

theorem State.serveIllegal_command (s : State) (p q : Port) : (s.serveIllegal p).command q = s.command q := by
  cases q <;> simp [State.command]

/-- The service of an illegal word returns no value (R251). -/
theorem State.serveIllegal_strobes (s : State) (p : Port) :
    (s.serveIllegal p).xValid = false ∧ (s.serveIllegal p).qValid = false := by
  obtain ⟨x, q, n, h⟩ := (s.raiseFault .illegalCommand).returnNoValue_eq p
  rw [State.serveIllegal, State.faultOn, h]
  exact ⟨rfl, rfl⟩

/-- Latching the inputs takes one entry of the environment's schedule (R266). -/
theorem State.latched_env (s : State) : s.latched.env = s.env.tail := by
  obtain ⟨_, _, _, _, _, _, _, _, _, h⟩ := s.latched_eq
  rw [h]

/-- Settles O7: the fault entry writes only the fault register, and the completion only the latch of the port served. -/
theorem illegalWordRaisesIllegalCommand : Obligations.IllegalWordRaisesIllegalCommand := by
  intro s p why hr hp hd hrun
  refine ⟨_, step_of_illegal hr hp hd, ?flt, ?units, ?own, ?others, ?env, ?strobes⟩
  case flt => simp [State.serveIllegal_flt, State.faulted_latched, hrun]
  case units =>
    exact (s.sameUnits_latched.trans (State.sameUnits_serveIllegal _ p)).trans (State.sameUnits_clearLatch _ p)
  case own => simp [State.clearLatch_pending]
  case others =>
    intro q hq
    rw [State.clearLatch_pending, State.clearLatch_command _ hq, State.serveIllegal_pending,
      State.serveIllegal_command]
    simp [hq]
  case env => simp [State.latched_env]
  case strobes => simpa using s.latched.serveIllegal_strobes p

/-! ### One step, whatever it serves -/

/-- Every step answers a next state. -/
theorem step_next (s : State) : ∃ t, step s = .next t := by
  unfold step
  cases s.nextService with
  | reset u => exact ⟨_, rfl⟩
  | idle u => exact ⟨_, rfl⟩
  | illegal p u => exact ⟨_, rfl⟩
  | run p i u =>
    obtain ⟨v, hv⟩ := exec_next i u
    exact ⟨v.clearLatch p, by simp only [hv, complete]⟩

/-- A command does not read or write the environment's schedule. -/
theorem exec_env {i : Instr} {s t : State} (h : exec i s = .next t) : t.env = s.env := by
  rcases exec_cases h with ⟨-, -, rfl⟩ | ⟨-, -, rfl⟩ | ⟨-, -, rfl⟩ | ⟨-, -, rfl⟩ | ⟨_, _, _, _, _, _, rfl, -⟩ <;> simp

/-- A step takes one entry of the environment's schedule (R266). -/
theorem step_env {s t : State} (h : step s = .next t) : t.env = s.env.tail := by
  rcases step_cases h with ⟨-, rfl⟩ | ⟨-, -, rfl⟩ | ⟨p, -, -, -, -, rfl⟩ | ⟨p, i, u, -, -, -, hu, rfl⟩
  · obtain ⟨_, _, _, _, _, _, _, _, h⟩ := (s.withEnv s.env.tail).takeReset_eq
    rw [h]
    rfl
  · exact s.latched_env
  · simp [State.latched_env]
  · simp [exec_env hu, State.latched_env]

/-! ### One request at a time (R102, R258, R259) -/

theorem State.nextPort_eq_none_iff_pending {s : State} : s.nextPort = none ↔ ∀ p, s.pending p = false := by
  rw [State.nextPort_eq_none]
  constructor
  · rintro ⟨ha, hx, ht, hq⟩ p
    cases p
    · exact ha
    · exact hx
    · exact ht
    · exact hq
  · intro h
    exact ⟨h .acq, h .xport, h .tick, h .query⟩

/-- A raised request sets its port's latch, if it was clear, and no other (R258). -/
theorem State.raise_pending (s : State) (r : Request) (q : Port) :
    (s.raise r).pending q = (s.pending q || decide (q = portOf r)) := by
  cases r with
  | acq w readings => cases h : s.pendAcq <;> cases q <;> simp [State.raise, State.pending, portOf, h]
  | xport w => cases h : s.pendX <;> cases q <;> simp [State.raise, State.pending, portOf, h]
  | tick w => cases h : s.pendTick <;> cases q <;> simp [State.raise, State.pending, portOf, h]
  | query w => cases h : s.pendQ <;> cases q <;> simp [State.raise, State.pending, portOf, h]

/-- An entry of a program's inputs: RESET alone, or one request (R102 to R104). -/
def Inputs.IsSingle (i : Inputs) : Prop := i = { reset := true, requests := [] } ∨ ∃ r, i = raising r

theorem Line.inputs_isSingle (l : Line) : ∀ i ∈ l.inputs, Inputs.IsSingle i := by
  have one : ∀ r, ∀ i ∈ [raising r], Inputs.IsSingle i := fun r i hi => .inr ⟨r, List.mem_singleton.1 hi⟩
  have many : ∀ n r, ∀ i ∈ List.replicate n (raising r), Inputs.IsSingle i :=
    fun n r i hi => .inr ⟨r, List.eq_of_mem_replicate hi⟩
  cases l with
  | reset => exact fun i hi => .inl (List.mem_singleton.1 hi)
  | ticks n => exact many n _
  | acqn n r => exact many n _
  | drain16 => exact many 16 _
  | _ => exact one _

theorem programInputs_isSingle (lines : List Line) : ∀ i ∈ programInputs lines, Inputs.IsSingle i := by
  intro i hi
  obtain ⟨l, -, hl⟩ := List.mem_flatMap.1 hi
  exact l.inputs_isSingle i hl

/-- The service of the word `w` on port `p`, with the state it is served in: a command or an illegal word (R97). -/
def serviceOf (p : Port) (w : Byte) (s : State) : Service :=
  match decode p w with
  | .command i => .run p i s
  | .illegal _ => .illegal p s

theorem State.nextService_eq_serviceOf {s : State} {p : Port} (hr : s.inputs.reset = false)
    (hp : s.latched.nextPort = some p) : s.nextService = serviceOf p (s.latched.command p) s.latched := by
  cases hd : decode p (s.latched.command p) with
  | command i => rw [State.nextService_command hr hp hd, serviceOf, hd]
  | illegal why => rw [State.nextService_illegal hr hp hd, serviceOf, hd]

/-- The next step serves the entry `i` of a program: the reset sequence where it is RESET, and else its one request, its
port, its word and, on ACQ, its readings. -/
def State.Serves (u : State) (i : Inputs) : Prop :=
  (i.reset = true ∧ u.nextService = .reset (u.withEnv u.env.tail)) ∨
  ∃ r, i = raising r ∧ u.latched.command (portOf r) = wordOf r ∧
    (∀ w readings, r = .acq w readings → u.latched.acqData = readings) ∧
    u.nextService = serviceOf (portOf r) (wordOf r) u.latched

/-- A block with no latch set serves the entry at its inputs, and no latch is set after the step. -/
theorem serves_single {s : State} {i : Inputs} {rest : List Inputs} (hn : s.nextPort = none) (he : s.env = i :: rest)
    (hi : Inputs.IsSingle i) : s.Serves i ∧ ∃ t, step s = .next t ∧ t.nextPort = none ∧ t.env = rest := by
  obtain ⟨t, ht⟩ := step_next s
  have henv : t.env = rest := by rw [step_env ht, he, List.tail_cons]
  rcases hi with rfl | ⟨r, rfl⟩
  · have hservice : s.nextService = .reset (s.withEnv s.env.tail) := by simp [State.nextService, State.inputs, he]
    refine ⟨.inl ⟨rfl, hservice⟩, t, ht, ?_, henv⟩
    obtain ⟨_, _, _, _, _, _, _, _, h⟩ := (s.withEnv s.env.tail).takeReset_eq
    rw [step, hservice] at ht
    cases ht
    rw [h]
    rfl
  · obtain ⟨hr, hlatched, hp, hword, hreadings⟩ := State.latched_of_raising hn he
    have hservice : s.nextService = serviceOf (portOf r) (wordOf r) s.latched :=
      hword ▸ State.nextService_eq_serviceOf hr hp
    refine ⟨.inr ⟨r, rfl, hword, hreadings, hservice⟩, t, ht, ?_, henv⟩
    rw [State.nextPort_eq_none_iff_pending] at hn ⊢
    intro q
    have hclear : (s.withEnv rest).pending q = false := hn q
    rw [step_pending hr ht, hp, hlatched, State.raise_pending, hclear]
    simp [eq_comm]

/-- A block with no latch set takes a program's entries one at a time: after `k` steps the first `k` are served. -/
theorem run_singles {inputs : List Inputs} (hsingle : ∀ i ∈ inputs, Inputs.IsSingle i) {s : State}
    (hn : s.nextPort = none) (he : s.env = inputs) {k : Nat} (hk : k ≤ inputs.length) :
    ∃ u, Host.Core.run core k s = .next u ∧ u.nextPort = none ∧ u.env = inputs.drop k := by
  induction k generalizing inputs s with
  | zero => exact ⟨s, run_zero s, hn, he⟩
  | succ k ih =>
    cases inputs with
    | nil => exact absurd hk (by simp)
    | cons i rest =>
      obtain ⟨-, t, ht, htn, hte⟩ := serves_single hn he (hsingle i List.mem_cons_self)
      obtain ⟨u, hu, hun, hue⟩ := ih (fun j hj => hsingle j (List.mem_cons_of_mem i hj)) htn hte (by simpa using hk)
      exact ⟨u, (run_succ k ht).trans hu, hun, hue⟩

/-- Settles O52: after `k` steps the schedule is the program from its `k`-th entry on, and no latch is set. -/
theorem programsAreServedInOrder : Obligations.ProgramsAreServedInOrder := by
  intro s lines hn
  have hsingle := programInputs_isSingle lines
  have hrun := fun k hk => run_singles (s := s.withProgram lines) (k := k) hsingle hn rfl hk
  constructor
  · intro k hk
    obtain ⟨u, hu, hun, hue⟩ := hrun k hk.le
    rw [List.drop_eq_getElem_cons hk] at hue
    obtain ⟨hserves, v, hv, hvn, -⟩ := serves_single hun hue (hsingle _ (List.getElem_mem hk))
    exact ⟨u, v, hu, hv, hvn, hserves⟩
  · obtain ⟨t, ht, htn, hte⟩ := hrun _ le_rfl
    exact ⟨t, ht, by rw [hte, List.drop_length], htn⟩

end Sys2Proof.Machine

/-! PROOF. The Sample Filter (40_filter.md): what RD_FILTERED, RD_METRIC and ACQUIRE do to it (R120 to R126), the
window of readings it holds over any run (R121, R122, R127, R306), the permanence of `filled` (R128), the independence of
its lanes (R129), and the agreement of the queries with the frame (R126, R233). -/

namespace Sys2Proof.Machine

/-! ### RD_FILTERED and RD_METRIC (R125, R126) -/

/-- A channel index, as a 4-bit operand, selects that channel (R93). -/
theorem channelOperand_setWidth (c : Channel) : channelOperand (c.setWidth 4) = some c := by
  revert c
  decide

/-- An operand above 3 selects no channel (R93). -/
theorem channelOperand_eq_none {c : BitVec 4} (h : 3 < c.toNat) : channelOperand c = none :=
  if_neg (by omega)

theorem exec_rdFiltered_of_channel {s : State} (c : Channel) (hrun : s.faulted = false) :
    exec (.rdFiltered (c.setWidth 4)) s = .next (s.returnQ (s.filtered c)) := by
  have hserved := State.unlessFaulted_running hrun (s.returnQ (s.filtered c)) s.returnAnyQ
  simpa only [exec, execRdFiltered, channelOperand_setWidth] using hserved

theorem exec_rdFiltered_out_of_range {s : State} {c : BitVec 4} (hrun : s.faulted = false) (hc : 3 < c.toNat) :
    exec (.rdFiltered c) s = .next (s.faultOn .query .channelRange) := by
  have hserved := State.unlessFaulted_running hrun (s.faultOn .query .channelRange) s.returnAnyQ
  simpa only [exec, execRdFiltered, channelOperand_eq_none hc] using hserved

theorem exec_rdMetric_of_running {s : State} (hrun : s.faulted = false) :
    exec .rdMetric s = .next (s.returnQ (s.metric Config.params)) :=
  State.unlessFaulted_running hrun _ _

/-- CHANNEL_RANGE is recorded in the fault register, and no value is returned (R250, R251). -/
theorem State.faultOn_channelRange_eq {s : State} (hrun : s.faulted = false) :
    ∃ x q n, s.faultOn .query .channelRange =
      { s with flt := 0b101, xData := x, qData := q, xValid := false, qValid := false, draws := n } := by
  obtain ⟨x, q, n, h⟩ := (s.raiseFault .channelRange).returnNoValue_eq .query
  refine ⟨x, q, n, ?_⟩
  rw [State.faultOn, h, State.raiseFault_eq, hrun]
  rfl

/-- Settles O13: the value is FILTERED's, whose EFFCOUNT is written out. -/
theorem rdFilteredReturnsTheMean : Obligations.RdFilteredReturnsTheMean := by
  intro s c hrun
  rw [exec_rdFiltered_of_channel c hrun]
  rfl

/-- Settles O14: the operand selects no channel, and the fault entry writes only the fault register. -/
theorem channelOutOfRangeFaults : Obligations.ChannelOutOfRangeFaults := by
  intro s c hrun hc
  obtain ⟨x, q, n, h⟩ := State.faultOn_channelRange_eq hrun
  refine ⟨_, exec_rdFiltered_out_of_range hrun hc, ?_⟩
  rw [h]
  exact ⟨rfl, by simp [State.SameUnits], ⟨fun p => by cases p <;> exact ⟨rfl, rfl⟩, rfl⟩, rfl, rfl, rfl⟩

/-- Settles O15: the value is METRIC's, whose expression is written out. -/
theorem rdMetricReturnsTheScaledValue : Obligations.RdMetricReturnsTheScaledValue := by
  intro s hrun
  rw [exec_rdMetric_of_running hrun]
  rfl

/-! ### The queries and the frame (R126, R233) -/

/-- The two bytes of a field make the field (R72). -/
theorem highByte_append_lowByte (v : Half) : highByte v ++ lowByte v = v := by
  unfold highByte lowByte
  rw [BitVec.extractLsb'_append_extractLsb'_eq_extractLsb' (by rfl)]
  simp

theorem zextLevel_eq_zero_iff (l : RiskLevel) : zextLevel l = 0 ↔ l = .normal := by
  cases l <;> decide

theorem decide_zextLevel_ne_zero (l : RiskLevel) : decide (l ≠ .normal) = decide (zextLevel l ≠ 0) := by
  simp only [ne_eq, zextLevel_eq_zero_iff]

/-- COMBINED is Normal exactly where both levels are (R154). -/
theorem RiskLevel.max_eq_normal_iff (a b : RiskLevel) : a.max b = .normal ↔ a = .normal ∧ b = .normal := by
  cases a <;> cases b <;> decide

/-- Settles O40: each query returns what the frame's invariant says the field carries. -/
theorem queriesAgreeWithTheFrame : Obligations.QueriesAgreeWithTheFrame := by
  rintro s hrun ⟨-, -, -, buzzer, motor, -, -, -, hgas, htemp, -, hchannel, hmetricLow, hmetricHigh⟩
  refine ⟨⟨_, exec_rdMetric_of_running hrun, ?metric⟩, fun c => ⟨_, exec_rdFiltered_of_channel c hrun, ?filtered⟩,
    ⟨_, State.unlessFaulted_running hrun _ _, ?gas⟩, ⟨_, State.unlessFaulted_running hrun _ _, ?temp⟩,
    ⟨_, State.unlessFaulted_running hrun _ _, ?combined⟩⟩
  case metric =>
    rw [hmetricLow, hmetricHigh]
    exact (highByte_append_lowByte _).symm
  case filtered =>
    obtain ⟨hlow, hhigh⟩ := hchannel c
    rw [hlow, hhigh]
    exact (highByte_append_lowByte _).symm
  case gas => exact hgas.trans (decide_zextLevel_ne_zero _)
  case temp => exact htemp.trans (decide_zextLevel_ne_zero _)
  case combined =>
    have hcombined : zextLevel s.combined = 0 ↔ s.gasState = .normal ∧ s.tempState = .normal := by
      rw [zextLevel_eq_zero_iff, State.combined, RiskLevel.max_eq_normal_iff, and_comm]
    rw [hgas, htemp, decide_eq_false_iff_not, decide_eq_false_iff_not, not_not, not_not]
    exact hcombined

/-! ### What the filter's state decides -/

/-- The two states agree on the filter: histories, sums, index and `filled` (R33 to R36). -/
def State.SameFilter (s t : State) : Prop :=
  t.hist = s.hist ∧ t.sum = s.sum ∧ t.idx = s.idx ∧ t.filled = s.filled

theorem State.SameUnits.sameFilter {s t : State} (h : s.SameUnits t) : s.SameFilter t := by
  obtain ⟨hhist, hsum, hidx, hfilled, -⟩ := h
  exact ⟨hhist, hsum, hidx, hfilled⟩

theorem State.SameFilter.trans {s t u : State} (hst : s.SameFilter t) (htu : t.SameFilter u) : s.SameFilter u := by
  obtain ⟨hhist, hsum, hidx, hfilled⟩ := hst
  obtain ⟨hhist', hsum', hidx', hfilled'⟩ := htu
  exact ⟨hhist'.trans hhist, hsum'.trans hsum, hidx'.trans hidx, hfilled'.trans hfilled⟩

theorem State.SameFilter.sumAt {s t : State} (h : s.SameFilter t) (c : Channel) : t.sumAt c = s.sumAt c := by
  obtain ⟨-, hsum, -, -⟩ := h
  simp only [State.sumAt, hsum]

theorem State.SameFilter.histAt {s t : State} (h : s.SameFilter t) (c : Channel) (k : Slot) :
    t.histAt c k = s.histAt c k := by
  obtain ⟨hhist, -, -, -⟩ := h
  simp only [State.histAt, State.histOf, hhist]

theorem State.SameFilter.filtered {s t : State} (h : s.SameFilter t) : t.filtered = s.filtered := by
  obtain ⟨-, hsum, hidx, hfilled⟩ := h
  exact State.filtered_congr hsum hidx hfilled

/-- ACQUIRE does to the filter what its INGEST does (R230). -/
theorem State.sameFilter_acquireCycle (s : State) (r : Readings) :
    (s.ingest r).SameFilter (s.acquireCycle Config.params r) := by
  simp [State.SameFilter]

theorem exec_acquire_of_running {s : State} (hrun : s.faulted = false) :
    exec .acquire s = .next (s.acquireCycle Config.params s.acqData).returnNothing :=
  State.unlessFaulted_running hrun _ _

/-- An ACQUIRE served on a block not faulted ingests the readings latched with it (R99, R230). -/
theorem exec_acquire_filter {s : State} (hrun : s.faulted = false) :
    ∃ t, exec .acquire s = .next t ∧ (s.ingest s.acqData).SameFilter t :=
  ⟨_, exec_acquire_of_running hrun,
    (s.sameFilter_acquireCycle s.acqData).trans (State.sameUnits_returnNothing _).sameFilter⟩

/-- Settles O12: INGEST's lemmas, channel by channel and slot by slot. -/
theorem acquireIngestsTheReadings : Obligations.AcquireIngestsTheReadings := by
  intro s hrun
  obtain ⟨t, ht, hfilter⟩ := exec_acquire_filter hrun
  have hsum := fun c => (hfilter.sumAt c).trans (State.sumAt_ingest s s.acqData c)
  have hslot := fun c k => (hfilter.histAt c k).trans (State.histAt_ingest s s.acqData c k)
  obtain ⟨-, -, hidx, hfilled⟩ := hfilter
  exact ⟨t, ht, hidx, hfilled, fun c => ⟨hsum c, hslot c⟩⟩

/-! ### Lanes (R129) -/

/-- FILTERED of a channel reads that channel's sum, the index and `filled` (R121, R122). -/
theorem State.filtered_lane_congr {s t : State} {c : Channel} (hsum : s.sumAt c = t.sumAt c) (hidx : s.idx = t.idx)
    (hfilled : s.filled = t.filled) : s.filtered c = t.filtered c := by
  have hcount : s.effCount = t.effCount := by rw [State.effCount, State.effCount, hidx, hfilled]
  rw [State.filtered, State.filtered, hcount, hsum]

/-- Settles O20: INGEST's sum and history of a channel, and FILTERED of it, read no other channel. -/
theorem lanesAreIndependent : Obligations.LanesAreIndependent := by
  intro s t c hs ht hidx hfilled hsum hhist hreading
  obtain ⟨u, hu, hsu⟩ := exec_acquire_filter hs
  obtain ⟨v, hv, htv⟩ := exec_acquire_filter ht
  have hreading' : readingOf s.acqData c = readingOf t.acqData c := hreading
  have hsums : (s.ingest s.acqData).sumAt c = (t.ingest t.acqData).sumAt c := by
    simp only [State.sumAt_ingest, State.nextSum, hsum, hreading', hidx, hhist]
  have hslots : ∀ k, (s.ingest s.acqData).histAt c k = (t.ingest t.acqData).histAt c k := fun k => by
    simp only [State.histAt_ingest, hreading', hidx, hhist]
  have hmeans : (s.ingest s.acqData).filtered c = (t.ingest t.acqData).filtered c :=
    State.filtered_lane_congr hsums (by simp [hidx]) (by simp [hidx, hfilled])
  refine ⟨State.filtered_lane_congr hsum hidx hfilled, u, v, hu, hv, ?_, fun k => ?_, ?_⟩
  · rw [hsu.sumAt, htv.sumAt, hsums]
  · rw [hsu.histAt, htv.histAt, hslots]
  · rw [hsu.filtered, htv.filtered, hmeans]

/-! ### The filter through one step -/

/-- A command served with its effect is served on a block not faulted, in the state that has latched the step's
requests (R253, R259). -/
theorem State.serving_eq_some {s : State} {i : Instr} (h : s.serving = some i) :
    s.faulted = false ∧ ∃ p, s.nextService = .run p i s.latched := by
  cases hr : s.inputs.reset with
  | true => simp [State.serving, State.nextService, hr] at h
  | false =>
    cases hp : s.latched.nextPort with
    | none => simp [State.serving, State.nextService, State.arbitrate, hr, hp] at h
    | some p =>
      cases hd : decode p (s.latched.command p) with
      | illegal why => simp [State.serving, State.nextService_illegal hr hp hd] at h
      | command j =>
        have hservice := State.nextService_command hr hp hd
        obtain ⟨hrun, rfl⟩ : s.faulted = false ∧ j = i := by simpa [State.serving, hservice] using h
        exact ⟨hrun, p, hservice⟩

/-- A step that serves ACQUIRE ingests the readings latched with it (R99, R230). -/
theorem step_filter_of_acquire {s t : State} (hserving : s.serving = some .acquire) (h : step s = .next t) :
    (s.latched.ingest s.latched.acqData).SameFilter t := by
  obtain ⟨hrun, p, hservice⟩ := State.serving_eq_some hserving
  obtain ⟨u, hu, hfilter⟩ := exec_acquire_filter (s.faulted_latched.trans hrun)
  rw [step, hservice] at h
  simp only [hu, complete] at h
  cases h
  exact hfilter.trans (u.sameUnits_clearLatch p).sameFilter

/-- A step without RESET that serves no ACQUIRE leaves the filter as it was (R79). -/
theorem step_filter_of_no_acquire {s t : State} (hr : s.inputs.reset = false) (hserving : s.serving ≠ some .acquire)
    (h : step s = .next t) : s.SameFilter t := by
  obtain ⟨hhist, hsum, hidx, hfilled, -⟩ := step_keeps_acquired hr h hserving
  exact ⟨hhist, hsum, hidx, hfilled⟩

/-- `filled` stays set through an INGEST (R36, R120). -/
theorem filledAfter_true (k : Slot) : filledAfter true k = true := rfl

theorem step_filled_of_reset {s t : State} (hr : s.inputs.reset = true) (h : step s = .next t) : t.filled = false := by
  rcases step_cases h with ⟨-, rfl⟩ | ⟨hno, -⟩ | ⟨_, _, hno, -⟩ | ⟨_, _, _, hno, -⟩
  case inl =>
    obtain ⟨-, -, -, hfilled⟩ := (State.sameUnits_takeReset (s.withEnv s.env.tail)).sameFilter
    exact hfilled
  all_goals rw [hr] at hno; cases hno

/-- Settles O19: RESET clears `filled`, INGEST only sets it, and no other step writes it. -/
theorem filledIsPermanent : Obligations.FilledIsPermanent := by
  intro s t h hset
  cases hr : s.inputs.reset with
  | true => exact step_filled_of_reset hr h
  | false =>
    by_cases hserving : s.serving = some .acquire
    · obtain ⟨-, -, -, hfilled⟩ := step_filter_of_acquire hserving h
      rw [hfilled, State.filled_ingest, State.latched_filled, hset, filledAfter_true, Bool.not_false]
    · obtain ⟨-, -, -, hfilled⟩ := step_filter_of_no_acquire hr hserving h
      rw [hfilled, hset, Bool.not_false]

/-! ### The window of the last eight readings (R127) -/

/-- The exact sum of the last `min(8, T)` of a channel's readings, where `T` are listed, oldest first (R127). -/
def lastEightSum (rs : List Readings) (c : Channel) : Nat :=
  ((rs.drop (rs.length - 8)).map fun r => (readingOf r c).toNat).sum

/-- Before the window is full, a new reading evicts none. -/
theorem lastEightSum_concat_of_lt {rs : List Readings} (h : rs.length < 8) (r : Readings) (c : Channel) :
    lastEightSum (rs ++ [r]) c = lastEightSum rs c + (readingOf r c).toNat := by
  have hnew : rs.length + 1 - 8 = 0 := by omega
  have hold : rs.length - 8 = 0 := by omega
  simp [lastEightSum, hnew, hold]

/-- In a full window, a new reading evicts the oldest of the eight. -/
theorem lastEightSum_concat_of_le {rs : List Readings} (h : 8 ≤ rs.length) (r : Readings) (c : Channel) :
    lastEightSum (rs ++ [r]) c + (readingOf rs[rs.length - 8] c).toNat =
      lastEightSum rs c + (readingOf r c).toNat := by
  have hnew : rs.length + 1 - 8 = rs.length - 8 + 1 := by omega
  have hin : rs.length - 8 + 1 - rs.length = 0 := by omega
  have hold : rs.drop (rs.length - 8) = rs[rs.length - 8] :: rs.drop (rs.length - 8 + 1) :=
    List.drop_eq_getElem_cons (by omega)
  simp only [lastEightSum, List.length_append, List.length_singleton, hnew, hold, List.drop_append, hin, List.drop_zero,
    List.map_append, List.map_cons, List.map_nil, List.sum_append, List.sum_cons, List.sum_nil]
  omega

/-- The filter holds the window of the readings `rs`, oldest first: index and `filled` count them, each sum is the last
eight's, and each of the last eight stands in its slot (R127). -/
structure State.HoldsWindow (s : State) (rs : List Readings) : Prop where
  inv : s.FilterInv
  idx : s.idx = BitVec.ofNat 3 rs.length
  filled : s.filled = decide (8 ≤ rs.length)
  sum : ∀ c, (s.sumAt c).toNat = lastEightSum rs c
  slot : ∀ c m, (h : m < rs.length) → rs.length ≤ m + 8 → s.histAt c (BitVec.ofNat 3 m) = readingOf rs[m] c

theorem State.FilterEmpty.holdsWindow {s : State} (h : s.FilterEmpty) : s.HoldsWindow [] where
  inv := h.filterInv
  idx := by obtain ⟨-, hidx, -⟩ := h; exact hidx
  filled := by obtain ⟨-, -, hfilled⟩ := h; exact hfilled
  sum := fun c => by obtain ⟨hzero, -, -⟩ := h; rw [(hzero c).1]; rfl
  slot := fun _ _ h => absurd h (Nat.not_lt_zero _)

theorem State.HoldsWindow.congr {s t : State} {rs : List Readings} (hst : s.SameFilter t) (h : s.HoldsWindow rs) :
    t.HoldsWindow rs := by
  have hsum := hst.sumAt
  have hslot := hst.histAt
  obtain ⟨hhist', hsum', hidx', hfilled'⟩ := hst
  exact ⟨h.inv.congr hhist' hsum' hidx' hfilled', hidx'.trans h.idx, hfilled'.trans h.filled,
    fun c => by rw [hsum, h.sum], fun c m hm hlast => by rw [hslot, h.slot c m hm hlast]⟩

section Window

variable {s : State} {rs : List Readings}

/-- The slots not yet written hold 0. -/
theorem State.HoldsWindow.unwritten (h : s.HoldsWindow rs) (c : Channel) {k : Slot} (hk : rs.length ≤ k.toNat) :
    s.histAt c k = 0 := by
  have hlt := k.isLt
  obtain ⟨-, hempty⟩ := h.inv
  refine hempty (by rw [h.filled, decide_eq_false_iff_not]; omega) c k ?_
  rw [h.idx, BitVec.le_def, BitVec.toNat_ofNat, Nat.mod_eq_of_lt (by omega)]
  exact hk

/-- EFFCOUNT is the number of readings in the window (R121). -/
theorem State.HoldsWindow.effCount_eq (h : s.HoldsWindow rs) : s.effCount = min 8 rs.length := by
  rw [State.effCount, h.filled, h.idx, BitVec.toNat_ofNat]
  by_cases hfull : 8 ≤ rs.length
  · simp [hfull]
  · simp only [hfull, decide_false, Bool.false_eq_true, if_false]
    omega

/-- The sum of the window moves by the new reading and the slot it overwrites. -/
theorem State.HoldsWindow.lastEightSum_concat (h : s.HoldsWindow rs) (r : Readings) (c : Channel) :
    lastEightSum (rs ++ [r]) c + (s.histAt c s.idx).toNat = lastEightSum rs c + (readingOf r c).toNat := by
  by_cases hfull : 8 ≤ rs.length
  · have hslot : s.idx = BitVec.ofNat 3 (rs.length - 8) := by
      rw [h.idx]
      apply BitVec.eq_of_toNat_eq
      simp only [BitVec.toNat_ofNat]
      omega
    rw [hslot, h.slot c (rs.length - 8) (by omega) (by omega)]
    exact lastEightSum_concat_of_le hfull r c
  · have hidx : s.idx.toNat = rs.length := by
      rw [h.idx, BitVec.toNat_ofNat]
      omega
    rw [h.unwritten c hidx.ge]
    exact lastEightSum_concat_of_lt (by omega) r c

end Window

/-- Where the filter's invariant holds, INGEST's sum is exact (R34, R120). -/
theorem State.FilterInv.sumAt_ingest_add {s : State} (h : s.FilterInv) (r : Readings) (c : Channel) :
    ((s.ingest r).sumAt c).toNat + (s.histAt c s.idx).toNat = (s.sumAt c).toNat + (readingOf r c).toNat := by
  rw [State.sumAt_ingest, h.nextSum_toNat, h.sum_eq]
  exact windowSum_set (s.histOf c) s.idx.toNat s.idx.isLt (readingOf r c)

/-- Two of any eight consecutive readings stand in different slots. -/
theorem slot_ne_of_lt {m n : Nat} (hmn : m < n) (hnm : n < m + 8) : BitVec.ofNat 3 m ≠ BitVec.ofNat 3 n := by
  intro h
  have hmod := congrArg BitVec.toNat h
  simp only [BitVec.toNat_ofNat] at hmod
  omega

theorem State.HoldsWindow.ingest {s : State} {rs : List Readings} (h : s.HoldsWindow rs) (r : Readings) :
    (s.ingest r).HoldsWindow (rs ++ [r]) where
  inv := h.inv.ingest r
  idx := by
    rw [State.idx_ingest, h.idx, List.length_append, List.length_singleton]
    exact (BitVec.ofNat_add rs.length 1).symm
  filled := by
    rw [State.filled_ingest, filledAfter, h.filled, h.idx, List.length_append, List.length_singleton]
    by_cases hfull : 8 ≤ rs.length
    · rw [decide_eq_true hfull, Bool.true_or, decide_eq_true (by omega)]
    · have hwrap : BitVec.ofNat 3 rs.length = 7 ↔ 8 ≤ rs.length + 1 := by
        rw [← BitVec.toNat_inj, BitVec.toNat_ofNat]
        simp only [BitVec.reduceToNat]
        omega
      rw [decide_eq_false hfull, Bool.false_or, decide_eq_decide]
      exact hwrap
  sum := fun c => by
    have hexact := h.inv.sumAt_ingest_add r c
    have hwindow := h.lastEightSum_concat r c
    rw [h.sum] at hexact
    omega
  slot := fun c m hm hlast => by
    simp only [List.length_append, List.length_singleton] at hm hlast
    rw [State.histAt_ingest, h.idx]
    rcases Nat.lt_succ_iff_lt_or_eq.1 hm with hm | rfl
    · rw [if_neg (slot_ne_of_lt hm (by omega)), h.slot c m hm (by omega), List.getElem_append_left hm]
    · rw [if_pos rfl, List.getElem_concat_length rfl]

/-! ### The window over a run (R127) -/

theorem State.NoResetAhead.inputs_reset {s : State} (h : s.NoResetAhead) : s.inputs.reset = false := by
  unfold State.inputs
  cases henv : s.env with
  | nil => rfl
  | cons now rest => exact h now (by rw [henv]; exact List.mem_cons_self)

theorem State.NoResetAhead.of_step {s t : State} (h : s.NoResetAhead) (ht : step s = .next t) : t.NoResetAhead := by
  intro i hi
  rw [step_env ht] at hi
  exact h i (List.mem_of_mem_tail hi)

theorem readingsServed_of_acquire {s t : State} (n : Nat) (ht : step s = .next t) (h : s.serving = some .acquire) :
    readingsServed (n + 1) s = s.latched.acqData :: readingsServed n t := by
  simp [readingsServed, ht, h]

theorem readingsServed_of_no_acquire {s t : State} (n : Nat) (ht : step s = .next t)
    (h : s.serving ≠ some .acquire) : readingsServed (n + 1) s = readingsServed n t := by
  simp [readingsServed, ht, h]

/-- A run without RESET adds to the window the readings of the ACQUIREs it serves. -/
theorem run_holdsWindow {n : Nat} {s : State} {rs : List Readings} (hno : s.NoResetAhead) (h : s.HoldsWindow rs) :
    ∃ t : State, Host.Core.run core n s = .next t ∧ t.HoldsWindow (rs ++ readingsServed n s) := by
  induction n generalizing s rs with
  | zero => exact ⟨s, run_zero s, by simpa [readingsServed] using h⟩
  | succ n ih =>
    obtain ⟨u, hu⟩ := step_next s
    rw [run_succ n hu]
    by_cases hserving : s.serving = some .acquire
    · have hlatched := h.congr s.sameUnits_latched.sameFilter
      have hwindow := (hlatched.ingest _).congr (step_filter_of_acquire hserving hu)
      rw [readingsServed_of_acquire n hu hserving, List.append_cons]
      exact ih (hno.of_step hu) hwindow
    · have hwindow := h.congr (step_filter_of_no_acquire hno.inputs_reset hserving hu)
      rw [readingsServed_of_no_acquire n hu hserving]
      exact ih (hno.of_step hu) hwindow

/-- Settles O17: the run keeps the window of the readings served, whose parts are the clauses. -/
theorem filterHoldsTheLastEightReadings : Obligations.FilterHoldsTheLastEightReadings := by
  intro n s hempty hno
  obtain ⟨t, ht, hwindow⟩ := run_holdsWindow (n := n) hno hempty.holdsWindow
  refine ⟨t, ht, ?_⟩
  rintro rs rfl c
  exact ⟨hwindow.sum c, hwindow.inv.sum_le_32760 c, hwindow.slot c, fun _ => hwindow.unwritten c⟩

/-! ### ACQUIREs one after another (R121, R122, R306) -/

/-- The entry of one ACQUIRE line (R102). -/
def acquireEntry (r : Readings) : Inputs := raising (requestOf .acquire r)

theorem programInputs_acq (rs : List Readings) : programInputs (rs.map .acq) = rs.map acquireEntry := by
  induction rs with
  | nil => rfl
  | cons r rest ih => rw [List.map_cons, List.map_cons, ← ih]; rfl

/-- An idle block serves the ACQUIRE at its inputs with that entry's readings, and is idle again. -/
theorem acquire_served {s : State} {r : Readings} {rest : List Inputs} (hidle : s.Idle)
    (he : s.env = acquireEntry r :: rest) :
    s.serving = some .acquire ∧ s.latched.acqData = r ∧ ∃ t, step s = .next t ∧ t.Idle ∧ t.env = rest := by
  obtain ⟨hrun, hnone⟩ := hidle
  obtain ⟨hr, -, hp, hword, hreadings⟩ := State.latched_of_raising hnone he
  have hd : decode .acq (s.latched.command .acq) = .command .acquire := hword ▸ decode_encode .acquire
  obtain ⟨-, t, ht, htn, hte⟩ := serves_single hnone he (.inr ⟨_, rfl⟩)
  have hserving := State.serving_command hr hp hd hrun
  have hflt : t.flt = s.flt := by
    by_contra hne
    obtain ⟨-, ⟨q, why, hq, hillegal, -⟩ | ⟨c, hother, -⟩⟩ := step_flt_ne hr ht hne
    · cases hp.symm.trans hq
      cases hd.symm.trans hillegal
    · cases hserving.symm.trans hother
  refine ⟨hserving, hreadings _ r rfl, t, ht, ⟨?_, htn⟩, hte⟩
  rw [State.faulted, hflt]
  exact hrun

/-- ACQUIREs raised one after another at an idle block are all served (R102). -/
theorem readingsServed_acquires (rs : List Readings) {s : State} (hidle : s.Idle)
    (he : s.env = rs.map acquireEntry) : readingsServed rs.length s = rs := by
  induction rs generalizing s with
  | nil => rfl
  | cons r rest ih =>
    obtain ⟨hserving, hreadings, t, ht, htidle, hte⟩ := acquire_served hidle he
    rw [List.length_cons, readingsServed_of_acquire _ ht hserving, hreadings, ih htidle hte]

/-- Settles O18: the run holds the window of the readings served, which are all of `rs`, and EFFCOUNT is their number up
to 8. -/
theorem filteredIsTheMovingAverage : Obligations.FilteredIsTheMovingAverage := by
  intro s rs hidle hempty
  have hserved : readingsServed rs.length (s.withProgram (rs.map .acq)) = rs :=
    readingsServed_acquires rs hidle (programInputs_acq rs)
  have hno : (s.withProgram (rs.map .acq)).NoResetAhead := by
    intro i hi
    rw [State.withProgram, State.withEnv_env, programInputs_acq] at hi
    obtain ⟨r, -, rfl⟩ := List.mem_map.1 hi
    rfl
  have hstart : (s.withProgram (rs.map .acq)).HoldsWindow [] := State.FilterEmpty.holdsWindow hempty
  obtain ⟨t, ht, hwindow⟩ := run_holdsWindow (n := rs.length) hno hstart
  rw [hserved, List.nil_append] at hwindow
  refine ⟨t, ht, hserved, fun c => ?_⟩
  rw [State.filtered_toNat, hwindow.sum, hwindow.effCount_eq]
  rfl

end Sys2Proof.Machine

/-! PROOF. The Risk Classifier (41_classifier.md): the transitions of one comparator (R151, R158 to R160), and the two
comparators of the block through ACQUIRE and through any step (R152, R153, R159). -/

namespace Sys2Proof.Machine

/-! ### One comparator (R151) -/

section Comparator

variable (v : Half) (th : Thresholds)

theorem riskStep_normal_eq_alarm_iff : riskStep .normal v th = .alarm ↔ th.alarmEnter ≤ v := by
  unfold riskStep
  split_ifs <;> simp [*]

theorem riskStep_normal_eq_warning_iff :
    riskStep .normal v th = .warning ↔ th.warnEnter ≤ v ∧ v < th.alarmEnter := by
  unfold riskStep
  rw [← BitVec.not_le (x := th.alarmEnter)]
  split_ifs <;> simp [*]

theorem riskStep_warning_eq_alarm_iff : riskStep .warning v th = .alarm ↔ th.alarmEnter ≤ v := by
  unfold riskStep
  split_ifs <;> simp [*]

theorem riskStep_warning_eq_normal_iff :
    riskStep .warning v th = .normal ↔ v < th.alarmEnter ∧ v ≤ th.warnExit := by
  unfold riskStep
  rw [← BitVec.not_le (x := th.alarmEnter)]
  split_ifs <;> simp [*]

/-- Between the warn exit and the alarm enter, both excluded, Warning stays (R158). -/
theorem riskStep_warning_eq_warning_iff :
    riskStep .warning v th = .warning ↔ th.warnExit < v ∧ v < th.alarmEnter := by
  unfold riskStep
  rw [← BitVec.not_le (x := th.alarmEnter), ← BitVec.not_le (x := v)]
  split_ifs <;> simp [*]

theorem riskStep_alarm_eq_warning_iff : riskStep .alarm v th = .warning ↔ v ≤ th.alarmExit := by
  unfold riskStep
  split_ifs <;> simp [*]

/-- The alarm floor (R159). -/
theorem riskStep_alarm_ne_normal : riskStep .alarm v th ≠ .normal := by
  unfold riskStep
  split_ifs <;> simp

end Comparator

/-- In Warning the two tests of R151 exclude each other, because `WX < AE`. -/
theorem Thresholds.warnExit_lt_alarmEnter {th : Thresholds} (h : th.ordered = true) : th.warnExit < th.alarmEnter := by
  simp only [Thresholds.ordered, Bool.and_eq_true, decide_eq_true_eq] at h
  obtain ⟨⟨⟨hwarn, hexit⟩, -⟩, -⟩ := h
  exact BitVec.lt_trans hexit hwarn

/-- Settles O22, one lemma per transition; an exit has the input 0 as its witness (R160). -/
theorem comparatorTransitions : Obligations.ComparatorTransitions := by
  intro th v hordered
  have hexit : ∀ w, riskStep .warning w th = .normal ↔ w ≤ th.warnExit := fun w => by
    rw [riskStep_warning_eq_normal_iff, and_iff_right_iff_imp]
    have hlt := Thresholds.warnExit_lt_alarmEnter hordered
    bv_omega
  exact ⟨riskStep_normal_eq_alarm_iff v th, riskStep_normal_eq_warning_iff v th, riskStep_warning_eq_alarm_iff v th,
    hexit v, riskStep_alarm_eq_warning_iff v th, riskStep_alarm_ne_normal v th,
    (riskStep_alarm_eq_warning_iff 0 th).2 (Nat.zero_le _), (hexit 0).2 (Nat.zero_le _)⟩

/-- Settles O23, by induction on the values: each leaves the comparator in Warning. -/
theorem noFlickerInWarning : Obligations.NoFlickerInWarning := by
  intro th vs hband
  induction vs with
  | nil => rfl
  | cons v rest ih =>
    obtain ⟨hv, hrest⟩ := List.forall_mem_cons.1 hband
    rw [List.foldl_cons, (riskStep_warning_eq_warning_iff v th).2 hv]
    exact ih hrest

/-! ### The two comparators through ACQUIRE (R152, R153) -/

theorem State.SameFilter.metric {s t : State} (h : s.SameFilter t) (cfg : Params) : t.metric cfg = s.metric cfg := by
  obtain ⟨-, hsum, hidx, hfilled⟩ := h
  exact State.metric_congr cfg hsum hidx hfilled

theorem State.SameFilter.tempInput {s t : State} (h : s.SameFilter t) (cfg : Params) :
    t.tempInput cfg = s.tempInput cfg := by
  simp only [State.tempInput, h.filtered, h.metric]

theorem State.SameFilter.gasInput {s t : State} (h : s.SameFilter t) (cfg : Params) :
    t.gasInput cfg = s.gasInput cfg := by
  simp only [State.gasInput, h.filtered]

/-- From `s` to `t` each comparator advances one STEP, on its input in `t` (R152, R153). -/
def State.Classifies (cfg : Params) (s t : State) : Prop :=
  t.tempState = riskStep s.tempState (t.tempInput cfg) cfg.thTemp ∧
  t.gasState = riskStep s.gasState (t.gasInput cfg) cfg.thGas

/-- ACQUIRE's CLASSIFY reads the filter after INGEST, and nothing later in the cycle writes the filter (R152, R230). -/
theorem State.classifies_acquireCycle (s : State) (r : Readings) :
    s.Classifies Config.params (s.acquireCycle Config.params r) := by
  have hfilter := s.sameFilter_acquireCycle r
  rw [State.Classifies, hfilter.tempInput, hfilter.gasInput, State.acquireCycle_tempState, State.acquireCycle_gasState]
  exact ⟨s.acquireDecide_tempState Config.params r, s.acquireDecide_gasState Config.params r⟩

/-- Only the units of the state reached count. -/
theorem State.Classifies.congr {cfg : Params} {s t u : State} (h : s.Classifies cfg t) (htu : t.SameUnits u) :
    s.Classifies cfg u := by
  have hfilter := htu.sameFilter
  obtain ⟨-, -, -, -, htemp, hgas, -⟩ := htu
  rw [State.Classifies, hfilter.tempInput, hfilter.gasInput, htemp, hgas]
  exact h

/-- Settles O21: the statement's comparison of numbers is STEP's comparison of words. -/
theorem acquireStepsBothComparators : Obligations.AcquireStepsBothComparators := by
  unfold Obligations.AcquireStepsBothComparators
  intro step3 s hrun
  have hstep : ∀ level v th, step3 level v th = riskStep level v th := fun level v th => by cases level <;> rfl
  obtain ⟨htemp, hgas⟩ := (s.classifies_acquireCycle s.acqData).congr (State.sameUnits_returnNothing _)
  refine ⟨_, exec_acquire_of_running hrun, ?_, ?_⟩
  · rw [hstep]; exact htemp
  · rw [hstep]; exact hgas

/-! ### The two comparators through one step (R159) -/

/-- A step without RESET advances both comparators one STEP, or leaves both (R79, R153). -/
theorem step_classifies_or_keeps {s t : State} (hr : s.inputs.reset = false) (h : step s = .next t) :
    s.latched.Classifies Config.params t ∨ (t.tempState = s.tempState ∧ t.gasState = s.gasState) := by
  rcases step_units_of_serving hr h with ⟨-, ht⟩ | ⟨-, ht⟩ | ⟨-, c, ht⟩ | ht
  case inl => exact .inl ((s.latched.classifies_acquireCycle _).congr ht)
  all_goals
    obtain ⟨-, -, -, -, htemp, hgas, -⟩ := ht
    exact .inr (by simp [htemp, hgas])

/-- Settles O24: a comparator is advanced by STEP, which has the alarm floor, or is left in Alarm. -/
theorem alarmNeverDropsToNormal : Obligations.AlarmNeverDropsToNormal := by
  refine ⟨riskStep_alarm_ne_normal, fun s t hr h => ?_⟩
  rcases step_classifies_or_keeps hr h with ⟨htemp, hgas⟩ | ⟨htemp, hgas⟩
  · rw [htemp, hgas, State.latched_tempState, State.latched_gasState]
    exact ⟨fun halarm => halarm ▸ riskStep_alarm_ne_normal _ _,
      fun halarm => halarm ▸ riskStep_alarm_ne_normal _ _⟩
  · rw [htemp, hgas]
    exact ⟨fun halarm => by simp [halarm], fun halarm => by simp [halarm]⟩

end Sys2Proof.Machine

/-! PROOF. The Actuator Pattern Driver (42_pattern.md): the waveform of the two outputs over any run with a fixed target
(R170, R172, R173), the output queries (R175, R176), and what ACQUIRE leaves of the outputs and the ports (R174,
R230). -/

namespace Sys2Proof.Machine

/-! ### The output queries (R175, R176) -/

theorem zextBit_eq (b : Bool) : zextBit b = if b then 1 else 0 := by
  cases b <;> decide

/-- Settles O30: each query returns its bit's `zext_16`, and `returnQ` writes only the QUERY output and the strobes. -/
theorem rdOutputsReturnTheBits : Obligations.RdOutputsReturnTheBits := by
  intro s hrun
  rw [← zextBit_eq s.buzzer, ← zextBit_eq s.motor]
  exact ⟨State.unlessFaulted_running hrun _ _, State.unlessFaulted_running hrun _ _⟩

/-! ### What ACQUIRE leaves (R174, R230) -/

/-- ACQUIRE's cycle leaves the latches to the completion of its request (R258, R261). -/
theorem State.sameLatches_acquireCycle (s : State) (cfg : Params) (r : Readings) :
    s.SameLatches (s.acquireCycle cfg r).returnNothing :=
  ⟨fun p => by cases p <;> simp [State.pending, State.command], by simp⟩

/-- Settles O32: the cycle's frame lemmas, one for each register; returning nothing writes only the strobes. -/
theorem acquireLeavesTheRest : Obligations.AcquireLeavesTheRest := by
  intro s hrun
  exact ⟨_, exec_acquire_of_running hrun, by simp, by simp, by simp,
    s.sameLatches_acquireCycle Config.params s.acqData, by simp, by simp, by simp, by simp, rfl, rfl⟩

/-! ### One TICK under a patterned target (R170, R172) -/

/-- R15 keeps the period of a pattern within a 16-bit counter, and at least 1. -/
theorem Params.patternPeriod_bounds {cfg : Params} (hwf : cfg.wellFormed = true) {l : RiskLevel} (hl : l ≠ .normal) :
    1 ≤ patternPeriod cfg l ∧ patternPeriod cfg l ≤ 65535 := by
  obtain ⟨-, -, -, hwarning, halarm⟩ := (Params.wellFormed_iff cfg).1 hwf
  rw [patternTimesOk_iff] at hwarning halarm
  cases l with
  | normal => exact absurd rfl hl
  | warning => simp only [patternPeriod]; omega
  | alarm => simp only [patternPeriod]; omega

/-- What TICK writes under either patterned target: the level's ON, its period and its motor output (R170). -/
theorem State.tickOutputs_of_patterned (cfg : Params) {s : State} (hpatterned : s.target ≠ .normal) :
    s.tickOutputs cfg =
      { s with
        counter :=
          if s.counter.toNat + 1 ≥ patternPeriod cfg s.target then 0 else BitVec.ofNat 16 (s.counter.toNat + 1)
        buzzer := decide (s.counter.toNat + 1 ≤ patternOn cfg s.target)
        motor := decide (s.target = .alarm) } := by
  cases htarget : s.target with
  | normal => exact absurd htarget hpatterned
  | warning => rw [State.tickOutputs_warning cfg htarget, State.patternTick_eq, htarget]; rfl
  | alarm => rw [State.tickOutputs_alarm cfg htarget, State.patternTick_eq, htarget]; rfl

/-- A counter that wraps at `period` counts modulo `period`. -/
theorem add_one_mod_eq_ite {period : Nat} (hperiod : 1 ≤ period) (j : Nat) :
    (j + 1) % period = if j % period + 1 ≥ period then 0 else j % period + 1 := by
  have hlt := Nat.mod_lt j hperiod
  rw [← Nat.mod_add_mod]
  split
  case isTrue hwrap =>
    have hlast : j % period + 1 = period := by omega
    rw [hlast, Nat.mod_self]
  case isFalse hin => exact Nat.mod_eq_of_lt (by omega)

/-- `j` TICKs after its last restart the pattern driver is in the phase R173 gives: the counter counts them modulo the
period, and once there is one, the outputs are those of the last. -/
structure State.InPhase (cfg : Params) (s : State) (j : Nat) : Prop where
  patterned : s.target ≠ .normal
  counter : s.counter.toNat = j % patternPeriod cfg s.target
  outputs : 1 ≤ j →
    s.buzzer = decide ((j - 1) % patternPeriod cfg s.target < patternOn cfg s.target) ∧
    s.motor = decide (s.target = .alarm)

theorem State.inPhase_zero (cfg : Params) {s : State} (hpatterned : s.target ≠ .normal) (hcounter : s.counter = 0) :
    s.InPhase cfg 0 where
  patterned := hpatterned
  counter := by rw [hcounter, Nat.zero_mod]; rfl
  outputs := fun h => absurd h (Nat.not_succ_le_zero 0)

section Phase

variable {cfg : Params} {s t : State} {j : Nat}

theorem State.InPhase.congr (h : s.InPhase cfg j) (htarget : t.target = s.target) (hcounter : t.counter = s.counter)
    (hbuzzer : t.buzzer = s.buzzer) (hmotor : t.motor = s.motor) : t.InPhase cfg j where
  patterned := htarget ▸ h.patterned
  counter := by rw [hcounter, htarget, h.counter]
  outputs := by rw [hbuzzer, hmotor, htarget]; exact h.outputs

theorem State.InPhase.of_sameUnits (h : s.InPhase cfg j) (hst : s.SameUnits t) : t.InPhase cfg j := by
  obtain ⟨-, -, -, -, -, -, htarget, hcounter, hbuzzer, hmotor, -⟩ := hst
  exact h.congr htarget hcounter hbuzzer hmotor

/-- TICK evaluates the incremented counter before it wraps, so TICK `j + 1` drives the buzzer by `j` (R172, R173). -/
theorem State.InPhase.tickOutputs (h : s.InPhase cfg j) (hwf : cfg.wellFormed = true) :
    (s.tickOutputs cfg).InPhase cfg (j + 1) := by
  obtain ⟨hpositive, hword⟩ := Params.patternPeriod_bounds hwf h.patterned
  rw [State.tickOutputs_of_patterned cfg h.patterned, h.counter]
  refine ⟨h.patterned, ?counter, fun _ => ⟨rfl, rfl⟩⟩
  rw [add_one_mod_eq_ite hpositive]
  split
  case isTrue => rfl
  case isFalse hin =>
    rw [BitVec.toNat_ofNat]
    exact Nat.mod_eq_of_lt (by omega)

end Phase

/-! ### One step under a fixed target -/

/-- RESET leaves a Normal target, which has no pattern (R292). -/
theorem step_target_of_reset {s t : State} (hr : s.inputs.reset = true) (h : step s = .next t) :
    t.target = .normal := by
  rcases step_cases h with ⟨-, rfl⟩ | ⟨hno, -⟩ | ⟨_, _, hno, -⟩ | ⟨_, _, _, hno, -⟩
  case inl =>
    obtain ⟨-, -, -, -, -, -, htarget, -⟩ := State.sameUnits_takeReset (s.withEnv s.env.tail)
    exact htarget
  all_goals rw [hr] at hno; cases hno

/-- A step that serves TICK drives the outputs once (R172). -/
theorem step_units_of_tick {s t : State} (hserving : s.serving = some .tick) (h : step s = .next t) :
    (s.latched.tickOutputs Config.params).SameUnits t := by
  obtain ⟨hrun, p, hservice⟩ := State.serving_eq_some hserving
  rw [step, hservice] at h
  simp only [exec_tick_of_running (s.faulted_latched.trans hrun), complete] at h
  cases h
  exact (State.sameUnits_returnNothing _).trans (State.sameUnits_clearLatch _ p)

/-- SET_TARGET restarts the counter only where it changes the target (R171), and no other step but TICK writes it. -/
theorem step_keeps_counter_of_target {s t : State} (hr : s.inputs.reset = false) (h : step s = .next t)
    (hno : s.serving ≠ some .tick) (htarget : t.target = s.target) : t.counter = s.counter := by
  rcases step_units_of_serving hr h with ⟨-, ht⟩ | ⟨htick, -⟩ | ⟨-, c, ht⟩ | ht
  case inr.inl => exact absurd htick hno
  all_goals obtain ⟨-, -, -, -, -, -, htarget', hcounter, -⟩ := ht
  case inl =>
    rw [State.acquireCycle_target] at htarget'
    rw [hcounter, State.acquireCycle_counter, State.acquireDecide_counter, ← htarget', htarget,
      State.latched_target, if_pos rfl, State.latched_counter]
  case inr.inr.inl => exact hcounter
  case inr.inr.inr => exact hcounter

/-- A step that leaves a patterned target in place advances the phase by the TICK it serves, if it serves one. -/
theorem step_inPhase {s t : State} {j : Nat} (hphase : s.InPhase Config.params j) (h : step s = .next t)
    (htarget : t.target = s.target) :
    t.InPhase Config.params (if s.serving = some .tick then j + 1 else j) := by
  have hr : s.inputs.reset = false := by
    cases hr : s.inputs.reset with
    | false => rfl
    | true => exact absurd (htarget.symm.trans (step_target_of_reset hr h)) hphase.patterned
  split
  case isTrue htick =>
    have hlatched := hphase.of_sameUnits s.sameUnits_latched
    exact (hlatched.tickOutputs Config.params_wellFormed).of_sameUnits (step_units_of_tick htick h)
  case isFalse hno =>
    obtain ⟨hbuzzer, hmotor, -⟩ := step_keeps_ticked hr h hno
    exact hphase.congr htarget (step_keeps_counter_of_target hr h hno htarget) hbuzzer hmotor

/-! ### The waveform over a run (R173) -/

theorem statesOf_succ {s t : State} (n : Nat) (h : step s = .next t) : statesOf (n + 1) s = t :: statesOf n t := by
  simp [statesOf, h]

theorem ticksServed_succ {s t : State} (n : Nat) (h : step s = .next t) :
    ticksServed (n + 1) s = if s.serving = some .tick then ticksServed n t + 1 else ticksServed n t := by
  simp [ticksServed, h]

/-- A run that leaves a patterned target in place advances the phase by the TICKs it serves. -/
theorem run_inPhase {n : Nat} {s : State} {j : Nat} (hphase : s.InPhase Config.params j)
    (htargets : ∀ t ∈ statesOf n s, t.target = s.target) :
    ∃ t : State, Host.Core.run core n s = .next t ∧ t.target = s.target ∧
      t.InPhase Config.params (j + ticksServed n s) := by
  induction n generalizing s j with
  | zero => exact ⟨s, run_zero s, rfl, hphase⟩
  | succ n ih =>
    obtain ⟨u, hu⟩ := step_next s
    rw [statesOf_succ n hu] at htargets
    obtain ⟨htarget, hrest⟩ := List.forall_mem_cons.1 htargets
    obtain ⟨t, ht, htargetEnd, hend⟩ := ih (step_inPhase hphase hu htarget) (by rwa [htarget])
    refine ⟨t, (run_succ n hu).trans ht, htargetEnd.trans htarget, ?_⟩
    have hcount : j + ticksServed (n + 1) s = (if s.serving = some .tick then j + 1 else j) + ticksServed n u := by
      rw [ticksServed_succ n hu]
      split <;> omega
    rwa [hcount]

/-- Settles O28: the run ends in the phase of the TICKs served, whose last clause is the law; the numbers are R11's
defaults. -/
theorem waveformLaw : Obligations.WaveformLaw := by
  refine ⟨rfl, rfl, rfl, rfl, fun n s hpatterned hcounter htargets hticks => ?_⟩
  obtain ⟨t, ht, htarget, hphase⟩ := run_inPhase (State.inPhase_zero Config.params hpatterned hcounter) htargets
  rw [Nat.zero_add] at hphase
  have houtputs := hphase.outputs hticks
  rw [htarget] at houtputs
  exact ⟨t, ht, houtputs⟩

end Sys2Proof.Machine

/-! PROOF. The Frame Publisher and the drain port (43_frame.md): the bytes RD_FRAME and DRAIN return (R204, R205), the
sixteen DRAINs of a frame (R205, R301), the round-trip checks of every frame (R207) and the sequence law (R208). -/

namespace Sys2Proof.Machine

/-! ### RD_FRAME and DRAIN (R204, R205) -/

/-- Settles O33: the value returned is `zext_16` of the byte. -/
theorem rdFrameReturnsTheByte : Obligations.RdFrameReturnsTheByte :=
  fun _ _ hrun => State.unlessFaulted_returnQ hrun _ _

/-- Settles O34: DRAIN writes the cursor, and returning a byte writes only the XPORT output and the strobes. -/
theorem drainReturnsTheByteAtTheCursor : Obligations.DrainReturnsTheByteAtTheCursor :=
  fun _ hrun => State.unlessFaulted_running hrun _ _

/-! ### The frame through one step -/

/-- A step that serves a command does what the command does to the state that has latched the step's requests, and
clears the latch of the port served (R258, R261). -/
theorem step_of_serving {i : Instr} {s u : State} (hserving : s.serving = some i) (hu : exec i s.latched = .next u) :
    ∃ p, step s = .next (u.clearLatch p) := by
  obtain ⟨-, p, hservice⟩ := State.serving_eq_some hserving
  exact ⟨p, by simp only [step, hservice, hu, complete]⟩

/-- A step that serves ACQUIRE runs its cycle on the readings latched with it (R99, R230). -/
theorem step_units_of_acquire {s t : State} (hserving : s.serving = some .acquire) (h : step s = .next t) :
    (s.latched.acquireCycle Config.params s.latched.acqData).SameUnits t := by
  obtain ⟨hrun, -⟩ := State.serving_eq_some hserving
  obtain ⟨p, hp⟩ := step_of_serving hserving (exec_acquire_of_running (s.faulted_latched.trans hrun))
  obtain rfl := Host.Outcome.next.inj (hp.symm.trans h)
  exact (State.sameUnits_returnNothing _).trans (State.sameUnits_clearLatch _ p)

/-! ### Sixteen DRAINs (R205, R301) -/

/-- The entry of one DRAIN line (R102). -/
def drainEntry : Inputs := raising (requestOf .drain noReadings)

theorem programInputs_drain16 : programInputs [.drain16] = List.replicate 16 drainEntry := rfl

/-- The bytes of the frame from the cursor on, `n` of them, with the cursor's wrap (R205). -/
def State.bytesFromCursor (s : State) (n : Nat) : List Byte :=
  (List.range n).map fun k => s.frameByte (s.cursor + BitVec.ofNat 4 k)

/-- The byte at the cursor comes first, and the others are those of the state whose cursor has advanced. -/
theorem State.bytesFromCursor_succ {s t : State} (n : Nat) (hframe : t.frame = s.frame)
    (hcursor : t.cursor = s.cursor + 1) :
    s.bytesFromCursor (n + 1) = s.frameByte s.cursor :: t.bytesFromCursor n := by
  have hnext : ∀ k, s.cursor + BitVec.ofNat 4 (k + 1) = t.cursor + BitVec.ofNat 4 k := fun k => by
    rw [hcursor, BitVec.add_assoc, Nat.add_comm k 1, BitVec.ofNat_add]
    rfl
  simp only [State.bytesFromCursor, State.frameByte_congr hframe, List.range_succ_eq_map, List.map_cons, List.map_map,
    Function.comp_def, Nat.succ_eq_add_one, hnext, BitVec.add_zero]

/-- An idle block serves the DRAIN at its inputs, returns the byte at the cursor, and is idle again. -/
theorem drain_served {s : State} {rest : List Inputs} (hidle : s.Idle) (he : s.env = drainEntry :: rest) :
    ∃ t, step s = .next t ∧ t.Idle ∧ t.env = rest ∧ t.frame = s.frame ∧ t.cursor = s.cursor + 1 ∧
      t.xValid = true ∧ t.xData = s.frameByte s.cursor := by
  obtain ⟨hrun, hnone⟩ := hidle
  obtain ⟨hr, -, hp, hword, -⟩ := State.latched_of_raising hnone he
  have hd : decode .xport (s.latched.command .xport) = .command .drain := hword ▸ decode_encode .drain
  have hexec := drainReturnsTheByteAtTheCursor s.latched (s.faulted_latched.trans hrun)
  obtain ⟨p, hstep⟩ := step_of_serving (State.serving_command hr hp hd hrun) hexec
  obtain ⟨-, t, ht, htn, hte⟩ := serves_single hnone he (.inr ⟨_, rfl⟩)
  obtain rfl := Host.Outcome.next.inj (hstep.symm.trans ht)
  refine ⟨_, ht, ⟨?idle, htn⟩, hte, ?_, ?_, ?_, ?_⟩
  case idle => simpa [State.faulted] using hrun
  all_goals simp [State.frameByte]

theorem drainedBytes_succ {s t : State} (n : Nat) (h : step s = .next t) (hvalid : t.xValid = true) :
    drainedBytes (n + 1) s = t.xData :: drainedBytes n t := by
  simp [drainedBytes, statesOf_succ n h, hvalid]

/-- DRAINs raised one after another at an idle block return the bytes of the frame from the cursor on, and leave it. -/
theorem drainedBytes_drains (n : Nat) {s : State} (hidle : s.Idle) (he : s.env = List.replicate n drainEntry) :
    drainedBytes n s = s.bytesFromCursor n ∧ ∃ t : State, Host.Core.run core n s = .next t ∧ t.frame = s.frame := by
  induction n generalizing s with
  | zero => exact ⟨rfl, s, run_zero s, rfl⟩
  | succ n ih =>
    obtain ⟨u, hu, huidle, hue, hframe, hcursor, hvalid, hdata⟩ := drain_served hidle he
    obtain ⟨hbytes, t, ht, htframe⟩ := ih huidle hue
    refine ⟨?_, t, (run_succ n hu).trans ht, htframe.trans hframe⟩
    rw [drainedBytes_succ n hu hvalid, hdata, hbytes, State.bytesFromCursor_succ n hframe hcursor]

/-- Settles O36: from cursor 0, the sixteen bytes from the cursor on are the frame's in order. -/
theorem sixteenDrainsReturnTheFrame : Obligations.SixteenDrainsReturnTheFrame := by
  intro s hidle hcursor
  obtain ⟨hbytes, hrun⟩ := drainedBytes_drains 16 (s := s.withProgram [.drain16]) hidle programInputs_drain16
  have hcursor' : (s.withProgram [.drain16]).cursor = 0 := hcursor
  refine ⟨?_, hrun⟩
  rw [hbytes, State.bytesFromCursor, hcursor']
  rfl

/-! ### The round-trip checks (R207) -/

/-- What every step keeps holds after a run. -/
theorem run_preserves {P : State → Prop} (hstep : ∀ s t : State, P s → step s = .next t → P t) (n : Nat) {s : State}
    (hs : P s) : ∃ t : State, Host.Core.run core n s = .next t ∧ P t := by
  induction n generalizing s with
  | zero => exact ⟨s, run_zero s, hs⟩
  | succ n ih =>
    obtain ⟨u, hu⟩ := step_next s
    obtain ⟨t, ht, hP⟩ := ih (hstep s u hs hu)
    exact ⟨t, (run_succ n hu).trans ht, hP⟩

/-- The block's invariant does not read the environment's schedule. -/
theorem State.Inv.withEnv {s : State} (h : s.Inv) (inputs : List Inputs) : (s.withEnv inputs).Inv := h

/-- Settles O38: the clauses are parts of the frame's invariant, which reset has and every step keeps (O49, O50). -/
theorem everyFrameIsWellFormed : Obligations.EveryFrameIsWellFormed := by
  intro n inputs
  obtain ⟨t, ht, hinv⟩ := run_preserves stepKeepsTheBlockInvariant n (resetStateMeetsTheInvariant.withEnv inputs)
  obtain ⟨-, ⟨-, hreader, hhigh, _, _, hcarries⟩, -⟩ := hinv
  obtain ⟨hsync0, hsync1, hend, hsum⟩ := (readerAccepts_iff _).1 hreader
  obtain ⟨-, -, -, -, -, hreserved, -⟩ := hcarries
  exact ⟨t, ht, hsync0, hsync1, hend, hsum, BitVec.xor_eq_zero_iff.2 hsum, hreserved, hhigh⟩

/-! ### The sequence law (R208) -/

/-- The frame is the `k`-th built since reset: it carries seq `k` mod 256, and the next to be built carries the one
after (R200, R208). -/
structure State.HoldsFrame (s : State) (k : Nat) : Prop where
  published : s.frameByte 2 = BitVec.ofNat 8 k
  next : s.seq = BitVec.ofNat 8 (k + 1)

theorem State.HoldsFrame.congr {s t : State} {k : Nat} (h : s.HoldsFrame k) (hframe : t.frame = s.frame)
    (hseq : t.seq = s.seq) : t.HoldsFrame k where
  published := State.frameByte_congr hframe ▸ h.published
  next := hseq ▸ h.next

/-- The zero frame is the 0th (R203). -/
theorem State.AfterReset.holdsFrame {s : State} (h : s.AfterReset) : s.HoldsFrame 0 := by
  obtain ⟨-, -, -, -, -, -, -, -, -, -, hseq, hframe, -⟩ := h
  exact ⟨hframe 2, hseq⟩

/-- BUILD puts seq into byte 2 and increments it (R200). -/
theorem State.HoldsFrame.acquireCycle {s : State} {k : Nat} (h : s.HoldsFrame k) (r : Readings) :
    (s.acquireCycle Config.params r).HoldsFrame (k + 1) := by
  obtain ⟨hbyte, -⟩ := s.carries_acquireCycle Config.params r
  refine ⟨hbyte.trans h.next, ?_⟩
  rw [State.acquireCycle_seq, h.next]
  exact (BitVec.ofNat_add (k + 1) 1).symm

/-- A run without RESET builds one frame for each ACQUIRE it serves. -/
theorem run_holdsFrame {n : Nat} {s : State} {k : Nat} (hno : s.NoResetAhead) (h : s.HoldsFrame k) :
    ∃ t : State, Host.Core.run core n s = .next t ∧ t.HoldsFrame (k + (readingsServed n s).length) := by
  induction n generalizing s k with
  | zero => exact ⟨s, run_zero s, h⟩
  | succ n ih =>
    obtain ⟨u, hu⟩ := step_next s
    rw [run_succ n hu]
    by_cases hserving : s.serving = some .acquire
    · have hlatched := h.congr s.latched_frame s.latched_seq
      obtain ⟨-, -, -, -, -, -, -, -, -, -, hframe, hseq, -⟩ := step_units_of_acquire hserving hu
      rw [readingsServed_of_acquire n hu hserving, List.length_cons, Nat.add_comm _ 1, ← Nat.add_assoc]
      exact ih (hno.of_step hu) ((hlatched.acquireCycle _).congr hframe hseq)
    · obtain ⟨-, -, -, -, -, -, -, hseq, hframe⟩ := step_keeps_acquired hno.inputs_reset hu hserving
      rw [readingsServed_of_no_acquire n hu hserving]
      exact ih (hno.of_step hu) (h.congr hframe hseq)

/-- Settles O39: the run ends with the frame of the last ACQUIRE served, or the zero frame. -/
theorem sequenceLaw : Obligations.SequenceLaw := by
  intro n s hreset hno
  obtain ⟨t, ht, hframe⟩ := run_holdsFrame (n := n) hno hreset.holdsFrame
  exact ⟨t, ht, by rw [hframe.published, BitVec.toNat_ofNat, Nat.zero_add]⟩

end Sys2Proof.Machine

/-! PROOF. The Cycle Orchestrator (44_orchestrator.md): the target and the phase counter after ACQUIRE (R234). -/

namespace Sys2Proof.Machine

/-! ### The target after ACQUIRE (R171, R234) -/

/-- SET_TARGET's level is COMBINED of the risk states CLASSIFY left, and BUILD and RESET_CURSOR write none of the three
(R230). -/
theorem State.acquireCycle_target_eq_combined (s : State) (cfg : Params) (r : Readings) :
    (s.acquireCycle cfg r).target = (s.acquireCycle cfg r).combined := by
  rw [State.combined, State.acquireCycle_target, State.acquireCycle_tempState, State.acquireCycle_gasState]
  exact s.acquireDecide_target cfg r

/-- SET_TARGET's rule for the counter holds of the whole cycle (R171). -/
theorem State.acquireCycle_counter_eq_ite (s : State) (cfg : Params) (r : Readings) :
    (s.acquireCycle cfg r).counter = if (s.acquireCycle cfg r).target = s.target then s.counter else 0 := by
  rw [State.acquireCycle_counter, State.acquireCycle_target]
  exact s.acquireDecide_counter cfg r

/-- Settles O26: `returnNothing` writes only the strobes, so the target and the counter are the cycle's. -/
theorem targetFollowsCombined : Obligations.TargetFollowsCombined := by
  intro s hrun
  exact ⟨_, exec_acquire_of_running hrun, s.acquireCycle_target_eq_combined Config.params s.acqData,
    s.acquireCycle_counter_eq_ite Config.params s.acqData⟩

end Sys2Proof.Machine

/-! PROOF. Events and faults (60_exceptions.md): what a step serves (R259 to R261, R268), the fault entry (R250, R251),
RD_FAULT (R252), and the Faulted state, which only RESET leaves (R253, R254). -/

namespace Sys2Proof.Machine

/-! ### The Faulted state through one command (R253) -/

/-- In the Faulted state every command writes no more than the data outputs, the strobes and the free-value index. -/
theorem exec_of_faulted {i : Instr} {s t : State} (hfaulted : s.faulted = true) (h : exec i s = .next t) :
    ∃ x q xv qv n, t = { s with xData := x, xValid := xv, qData := q, qValid := qv, draws := n } := by
  have hnot : s.faulted ≠ false := by simp [hfaulted]
  rcases exec_cases h with ⟨-, hrun, -⟩ | ⟨-, hrun, -⟩ | ⟨-, hrun, -⟩ | ⟨-, hrun, -⟩ | ⟨_, x, q, xv, qv, n, rfl, hflt⟩
  case inr.inr.inr.inr =>
    obtain rfl | ⟨hrun, -⟩ := hflt
    · exact ⟨x, q, xv, qv, n, rfl⟩
    · exact absurd hrun hnot
  all_goals exact absurd hrun hnot

/-- Settles O43: the data outputs, the strobes and the free-value index are no unit, no latch and not the fault
register. -/
theorem faultedBlockConsumesCommands : Obligations.FaultedBlockConsumesCommands := by
  intro s i hfaulted _
  obtain ⟨t, ht⟩ := exec_next i s
  obtain ⟨x, q, xv, qv, n, rfl⟩ := exec_of_faulted hfaulted ht
  refine ⟨_, ht, ?units, ⟨?latch, rfl⟩, rfl, rfl⟩
  case units => simp [State.SameUnits]
  case latch => exact fun p => by cases p <;> exact ⟨rfl, rfl⟩

/-! ### The Faulted state through a run (R253, R254) -/

theorem State.SameUnits.refl (s : State) : s.SameUnits s := by simp [State.SameUnits]

theorem State.serving_of_faulted {s : State} (hfaulted : s.faulted = true) : s.serving = none := by
  cases hserving : s.serving with
  | none => rfl
  | some i =>
    obtain ⟨hrun, -⟩ := State.serving_eq_some hserving
    rw [hfaulted] at hrun
    cases hrun

/-- FAULTED is a bit of the fault register (R46). -/
theorem State.faulted_congr {s t : State} (h : t.flt = s.flt) : t.faulted = s.faulted := by
  rw [State.faulted, h, State.faulted]

/-- In the Faulted state a step without RESET leaves the units and the fault register: it serves no command with its
effect, and only a block not faulted writes the register. -/
theorem step_of_faulted {s t : State} (hr : s.inputs.reset = false) (hfaulted : s.faulted = true)
    (h : step s = .next t) : s.SameUnits t ∧ t.flt = s.flt := by
  have hserving := State.serving_of_faulted hfaulted
  constructor
  · rcases step_units_of_serving hr h with ⟨hyes, -⟩ | ⟨hyes, -⟩ | ⟨hyes | hyes, -⟩ | hunits
    case inr.inr.inr => exact hunits
    all_goals rw [hserving] at hyes; cases hyes
  · by_contra hne
    obtain ⟨hrun, -⟩ := step_flt_ne hr h hne
    rw [hfaulted] at hrun
    cases hrun

/-- The faulted block `s` is frozen at `t`: `t` has its fault register and its units, and no RESET comes. -/
structure State.FrozenAt (s t : State) : Prop where
  flt : t.flt = s.flt
  units : s.SameUnits t
  noReset : t.NoResetAhead

theorem State.FrozenAt.of_step {s t u : State} (hfaulted : s.faulted = true) (h : s.FrozenAt t) (hu : step t = .next u) :
    s.FrozenAt u := by
  have htfaulted := (State.faulted_congr h.flt).trans hfaulted
  obtain ⟨hunits, hflt⟩ := step_of_faulted h.noReset.inputs_reset htfaulted hu
  exact ⟨hflt.trans h.flt, h.units.trans hunits, h.noReset.of_step hu⟩

/-- A step in which RESET is asserted is the reset sequence (R290). -/
theorem step_of_reset {s : State} (hr : s.inputs.reset = true) : step s = .next (s.withEnv s.env.tail).takeReset := by
  simp only [step, State.nextService, hr, if_true]

theorem State.takeReset_flt (s : State) : s.takeReset.flt = 0 := by
  obtain ⟨_, _, _, _, _, _, _, _, h⟩ := s.takeReset_eq
  rw [h]
  rfl

/-- Settles O44: every step without RESET keeps the block frozen, and the reset sequence clears the fault register. -/
theorem faultedUntilReset : Obligations.FaultedUntilReset := by
  constructor
  · intro n s hfaulted hno
    obtain ⟨t, ht, hfrozen⟩ :=
      run_preserves (fun _ _ => State.FrozenAt.of_step hfaulted) n ⟨rfl, State.SameUnits.refl s, hno⟩
    exact ⟨t, ht, (State.faulted_congr hfrozen.flt).trans hfaulted, hfrozen.flt, hfrozen.units⟩
  · intro s hr
    have hflt := (s.withEnv s.env.tail).takeReset_flt
    exact ⟨_, step_of_reset hr, by rw [State.faulted, hflt]; rfl, hflt⟩

/-! ### The choice of the port (R259, R268) -/

theorem forall_port_iff {P : Port → Prop} : (∀ p, P p) ↔ P .acq ∧ P .xport ∧ P .tick ∧ P .query := by
  constructor
  · exact fun h => ⟨h .acq, h .xport, h .tick, h .query⟩
  · rintro ⟨hacq, hxport, htick, hquery⟩ p
    cases p
    · exact hacq
    · exact hxport
    · exact htick
    · exact hquery

/-! Each port is served exactly where its latch is set and those tried before it are clear. -/

theorem State.nextPort_eq_acq_iff {s : State} : s.nextPort = some .acq ↔ s.pendAcq = true := by
  grind [State.nextPort]

theorem State.nextPort_eq_xport_iff {s : State} :
    s.nextPort = some .xport ↔ s.pendAcq = false ∧ s.pendX = true := by
  grind [State.nextPort]

theorem State.nextPort_eq_tick_iff {s : State} :
    s.nextPort = some .tick ↔ s.pendAcq = false ∧ s.pendX = false ∧ s.pendTick = true := by
  grind [State.nextPort]

theorem State.nextPort_eq_query_iff {s : State} :
    s.nextPort = some .query ↔
      s.pendAcq = false ∧ s.pendX = false ∧ s.pendTick = false ∧ s.pendQ = true := by
  grind [State.nextPort]

/-- Settles O4: of each port, the ranks below its own are those of the latches `nextPort` finds clear before it. -/
theorem highestPriorityPortIsServed : Obligations.HighestPriorityPortIsServed := by
  intro s rank
  refine ⟨fun p => ?_, State.nextPort_eq_none_iff_pending⟩
  rw [forall_port_iff]
  cases p with
  | acq => simp [rank, State.nextPort_eq_acq_iff, State.pending]
  | xport => simp [rank, State.nextPort_eq_xport_iff, State.pending, and_comm]
  | tick => simp [rank, State.nextPort_eq_tick_iff, State.pending, and_comm, and_assoc]
  | query => simp [rank, State.nextPort_eq_query_iff, State.pending, and_comm, and_assoc]

/-! ### One step (R259 to R261, R268) -/

/-- Settles O5: the service chosen is the command, and its completion clears the port's latch. -/
theorem stepRunsTheDecodedCommand : Obligations.StepRunsTheDecodedCommand := by
  intro s t p i hr hp hd ht
  rw [step, State.nextService_command hr hp hd]
  simp only [ht, complete]

theorem State.inputs_of_env_nil {s : State} (he : s.env = []) : s.inputs = { reset := false, requests := [] } := by
  rw [State.inputs, he]

/-- With no input there is nothing to latch (R258, R268). -/
theorem State.latched_of_env_nil {s : State} (he : s.env = []) : s.latched = s := by
  rw [State.latched, State.inputs_of_env_nil he, State.raiseAll, he, List.tail_nil, ← he]
  rfl

/-- A step in which RESET is not asserted and no latch is set does no more than latch its inputs (R268). -/
theorem step_of_idle {s : State} (hr : s.inputs.reset = false) (hp : s.latched.nextPort = none) :
    step s = .next s.latched := by
  simp only [step, State.nextService, hr, State.arbitrate, hp, Bool.false_eq_true, if_false]

/-- Settles O9: with no input the block latches nothing, and an idle block does no more. -/
theorem idleBlockIsUnchanged : Obligations.IdleBlockIsUnchanged := by
  intro s he hn
  have hlatched := State.latched_of_env_nil he
  have hreset : s.inputs.reset = false := by rw [State.inputs_of_env_nil he]
  have hstep := step_of_idle hreset (hlatched.symm ▸ hn)
  rwa [hlatched] at hstep

/-- Settles O11: every service ends in a next state, since every command's exec does (`exec_next`). -/
theorem stepNeverStops : Obligations.StepNeverStops := step_next

/-! ### The fault entry and RD_FAULT (R250 to R252) -/

/-- The fault entry on a block not faulted writes the code and FAULTED (R251). -/
theorem State.raiseFault_running {s : State} (hrun : s.faulted = false) (f : FaultCause) :
    s.raiseFault f = { s with flt := f.code ++ 1#1 } := by
  rw [State.raiseFault_eq, hrun]
  rfl

/-- The fault entry of a faulted block is void (R251). -/
theorem State.raiseFault_faulted {s : State} (hfaulted : s.faulted = true) (f : FaultCause) : s.raiseFault f = s := by
  rw [State.raiseFault_eq, hfaulted]
  rfl

/-- Settles O8: the codes 1 and 2, with FAULTED below them, are 011 and 101. -/
theorem faultEntryWritesOnlyFlt : Obligations.FaultEntryWritesOnlyFlt := by
  intro s
  split
  case isTrue hfaulted => exact ⟨State.raiseFault_faulted hfaulted _, State.raiseFault_faulted hfaulted _⟩
  case isFalse hrun =>
    have hrun : s.faulted = false := Bool.eq_false_iff.2 hrun
    exact ⟨State.raiseFault_running hrun _, State.raiseFault_running hrun _⟩

/-- Settles O42: RD_FAULT's arm does not ask whether the block is faulted, and returning a value writes only the QUERY
output and the strobes. -/
theorem rdFaultReturnsTheRegister : Obligations.RdFaultReturnsTheRegister :=
  fun s => congrArg Host.Outcome.next (s.returnQ_eq (zextFlt s.flt))

end Sys2Proof.Machine

/-! PROOF. The reset input (70_reset_and_hazards.md): what a step under RESET leaves (R290 to R292, R294). -/

namespace Sys2Proof.Machine

/-! ### The values after RESET (R292) -/

/-- The values of R292 are those of the units, the fault register and the pend bits, and of nothing else. -/
theorem State.AfterReset.congr {s t : State} (h : s.AfterReset) (hunits : s.SameUnits t) (hflt : t.flt = s.flt)
    (hpending : ∀ p, t.pending p = s.pending p) : t.AfterReset := by
  have hfilter := hunits.sameFilter
  obtain ⟨-, -, hidx, hfilled, htemp, hgas, htarget, hcounter, hbuzzer, hmotor, hframe, hseq, hcursor⟩ := hunits
  have hcombined : t.combined = s.combined := by rw [State.combined, htemp, hgas, State.combined]
  simpa only [State.AfterReset, hfilter.sumAt, hfilter.histAt, hidx, hfilled, htemp, hgas, hcombined, htarget, hcounter,
    hbuzzer, hmotor, hseq, State.frameByte_congr hframe, hcursor, hflt, hpending] using h

/-! ### The reset sequence (R291, R294) -/

/-- RESET clears all four latches, as in the reset state (R291). -/
theorem State.takeReset_pending (s : State) (p : Port) : s.takeReset.pending p = State.reset.pending p := by
  obtain ⟨_, _, _, _, _, _, _, _, h⟩ := s.takeReset_eq
  rw [h]
  cases p <;> rfl

/-- The reset sequence takes no input of its own. -/
theorem State.takeReset_env (s : State) : s.takeReset.env = s.env := by
  obtain ⟨_, _, _, _, _, _, _, _, h⟩ := s.takeReset_eq
  rw [h]

/-- The frame memory after RESET is that of the reset state (R203). -/
theorem State.takeReset_frame (s : State) : s.takeReset.frame = State.reset.frame := by
  obtain ⟨-, -, -, -, -, -, -, -, -, -, hframe, -⟩ := s.sameUnits_takeReset
  exact hframe

/-- From every state the reset sequence leaves the values of the reset state: its units, no fault, no latch (R292). -/
theorem State.takeReset_afterReset (s : State) : s.takeReset.AfterReset := by
  obtain ⟨hreset, -⟩ := resetStateHoldsTheResetValues
  exact hreset.congr s.sameUnits_takeReset s.takeReset_flt s.takeReset_pending

/-- Settles O47: the step is the reset sequence on the state with its input taken, and the requests of that input are
latched nowhere. -/
theorem resetRestoresEveryRegister : Obligations.ResetRestoresEveryRegister := by
  intro s hr
  have hwf : Memory.wf (s.withEnv s.env.tail).takeReset.frame = true := by
    rw [State.takeReset_frame]
    exact State.reset_frame_wf
  exact ⟨_, step_of_reset hr, State.takeReset_afterReset _, hwf, State.takeReset_env _⟩

end Sys2Proof.Machine

/-! PROOF. A placed word: what `withRequest` and `withFetchWord` leave on the latches and the schedule, and the step that
serves it (R94, R97, R258, R259; notes/assumptions/15.md). -/

namespace Sys2Proof

/-- The port a command's word decodes on is the port of its OP (R94, R97). -/
theorem homePort_of_decode {p : Port} {w : Byte} {i : Instr} (h : decode p w = .command i) : homePort w = p := by
  obtain ⟨hport, -⟩ := decode_eq_command_iff.1 h
  rw [homePort, hport, Option.getD_some]

end Sys2Proof

namespace Sys2Proof.Machine

/-! ### A request placed on a port -/

/-- A placed request comes with one quiet entry ahead of the schedule. -/
theorem State.withRequest_env (s : State) (p : Port) (w : Byte) :
    (s.withRequest p w).env = { reset := false, requests := [] } :: s.env := by
  cases p <;> rfl

theorem State.withRequest_inputs (s : State) (p : Port) (w : Byte) :
    (s.withRequest p w).inputs = { reset := false, requests := [] } := by
  rw [State.inputs, State.withRequest_env]

/-- The next step latches nothing beside a placed request: it only takes the quiet entry (R258). -/
theorem State.latched_withRequest (s : State) (p : Port) (w : Byte) :
    (s.withRequest p w).latched = (s.withRequest p w).withEnv s.env := by
  rw [State.latched, State.withRequest_inputs, State.withRequest_env, State.raiseAll, List.tail_cons]

/-- The port a request is placed on is the one served, since the latches tried before it are clear (R259). -/
theorem State.latched_withRequest_nextPort (s : State) (p : Port) (w : Byte) :
    (s.withRequest p w).latched.nextPort = some p := by
  rw [State.latched_withRequest]
  cases p with
  | acq => exact State.nextPort_eq_acq_iff.2 rfl
  | xport => exact State.nextPort_eq_xport_iff.2 ⟨rfl, rfl⟩
  | tick => exact State.nextPort_eq_tick_iff.2 ⟨rfl, rfl, rfl⟩
  | query => exact State.nextPort_eq_query_iff.2 ⟨rfl, rfl, rfl, rfl⟩

theorem State.latched_withRequest_command (s : State) (p : Port) (w : Byte) :
    (s.withRequest p w).latched.command p = w := by
  rw [State.latched_withRequest]
  cases p <;> rfl

/-! ### The step that serves it -/

/-- A step that serves a command is the command on the latched state, and then the latch clears (R258, R261). -/
theorem step_of_command {s : State} {p : Port} {i : Instr} (hr : s.inputs.reset = false)
    (hp : s.latched.nextPort = some p) (hd : decode p (s.latched.command p) = .command i) :
    step s = complete p (exec i s.latched) := by
  rw [step, State.nextService_command hr hp hd]

/-- The step after a command's word is placed on a port it decodes on runs the command, with the word latched. -/
theorem step_withRequest (s : State) {p : Port} {w : Byte} {i : Instr} (hd : decode p w = .command i) :
    step (s.withRequest p w) = complete p (exec i ((s.withRequest p w).withEnv s.env)) := by
  have hreset : (s.withRequest p w).inputs.reset = false := by rw [State.withRequest_inputs]
  have hport := s.latched_withRequest_nextPort p w
  have hword : decode p ((s.withRequest p w).latched.command p) = .command i := by
    rw [State.latched_withRequest_command, hd]
  rw [step_of_command hreset hport hword, State.latched_withRequest]

/-- `withFetchWord` places a command's word on the command's own port. -/
theorem State.withFetchWord_encode (s : State) (nbits : Nat) (i : Instr) :
    s.withFetchWord nbits (encode i).2.toNat = s.withRequest (encode i).1 (encode i).2 := by
  rw [State.withFetchWord, BitVec.ofNat_toNat, BitVec.setWidth_eq, homePort_of_decode (decode_encode i)]

/-- Settles O6: the word is placed on the command's own port, where it decodes to the command (`decode_encode`). -/
theorem placedWordRunsNext : Obligations.PlacedWordRunsNext := by
  intro s i
  rw [State.withFetchWord_encode]
  exact step_withRequest s (decode_encode i)

end Sys2Proof.Machine
